-- ==== Sys2Proof/Word.lean ====
section
/-! DEFINITION. The machine's word types (30_encoding.md R58, 10_state.md R20, R27). -/

namespace Sys2Proof

/-- A micro-op word of the ROM: one 16-bit word, the only length there is (R58). -/
abbrev Word := BitVec 16

/-- An index into the 32-entry ROM, the width of `SEQ_PC` (R20, R46). -/
abbrev RomIndex := BitVec 5

/-- A colour code: bit 0 red, bit 1 green, bit 2 blue (R25). -/
abbrev Colour := BitVec 3

end Sys2Proof
end

