-- ==== Sys2Proof/Config.lean ====
section
/-! DEFINITION. What is fixed when the block is configured: the constant tables (00_scope.md R6 to R8, 43_signal_driver.md
R100), the implementation parameters (00_scope.md R12), and the free values, constants without a body. -/

namespace Sys2Proof

/-- The four timing regions of the field, in their cyclic order (R22). -/
inductive Phase where
  | syncPulse
  | backPorch
  | activeVideo
  | frontPorch
deriving DecidableEq, Repr

/-- What drives the timer-axis sync output `SYNC_T` (R12, R40). -/
inductive HsyncSource where
  | timerCompare
  | undriven
deriving DecidableEq, Repr

/-- The duration of a micro-op, in ticks: at least 1 (R12), and such that `OPCNT <- d - 1` fits the 16 bits of `OPCNT`
(R31). DEDUCED bound, safe: a duration that `OPCNT` cannot count is no duration of this block (log 3). -/
structure Duration where
  ticks : Nat
  pos : 1 ≤ ticks
  fits : ticks ≤ 65536
deriving DecidableEq, Repr

/-- The fixed overhead `WAIT_B` of one WAIT: at least 1 (R12), and such that the longest in-window stall, `255 + WAIT_B`,
fits `OPCNT` (R31, R79). DEDUCED bound, safe (log 3). -/
structure WaitOverhead where
  ticks : Nat
  pos : 1 ≤ ticks
  fits : 255 + ticks ≤ 65536
deriving DecidableEq, Repr

/-- The range of a drawn duration: `1 ≤ lo ≤ hi` (R12), counted by the 16-bit `OPCNT` (R31). DEDUCED bound, safe (log 3). -/
structure DurationRange where
  lo : Nat
  hi : Nat
  pos : 1 ≤ lo
  ordered : lo ≤ hi
  fits : hi ≤ 65536
deriving DecidableEq, Repr

/-- The range of the event-entry latency: `0 ≤ lo ≤ hi` (R12), held by the 16-bit `ENTRYCNT` (R32). DEDUCED bound, safe
(log 3). -/
structure LatencyRange where
  lo : Nat
  hi : Nat
  ordered : lo ≤ hi
  fits : hi < 65536
deriving DecidableEq, Repr

/-- A configuration: every constant of R6 to R8 and R12 a named field, with the spec's defaults (R10). The spec decides the
remaining parameters of R12 outright: `TCNT_WIDTH = LINES_REM_WIDTH = 16` are the types of `TCNT` and `LINES_REM`,
`CYCLES_PER_TICK = 1` is "one step, one tick", and `WAIT_UNIT = 4` is `Config.waitUnit`. -/
structure Config where
  /-- `H_SYNC_TICKS` (R6) -/
  hSyncTicks : Nat := 61
  /-- `H_BP_TICKS` (R6) -/
  hBpTicks : Nat := 30
  /-- `H_ACTIVE_TICKS` (R6) -/
  hActiveTicks : Nat := 406
  /-- `H_FP_TICKS` (R6) -/
  hFpTicks : Nat := 10
  /-- `H_FULL_LINE_NB_TICKS`, the Frame-Clock period (R6); R11 (2) asks that it be the sum of the four. -/
  hFullLineNbTicks : Nat := 507
  /-- `V_SYNC_LINES` (R7) -/
  vSyncLines : Nat := 2
  /-- `V_BP_LINES` (R7) -/
  vBpLines : Nat := 31
  /-- `V_ACTIVE_LINES` (R7) -/
  vActiveLines : Nat := 480
  /-- `V_FP_LINES` (R7) -/
  vFpLines : Nat := 11
  /-- `N_BANDS` (R8) -/
  nBands : Nat := 8
  /-- `BAND_COLORS` (R100) -/
  bandColors : Vector Colour 8 := #v[0, 1, 2, 4, 6, 3, 5, 7]
  /-- `SYNC_IDLE_LEVEL` (R12): the level of a sync pin when not asserted. -/
  syncIdleLevel : Bool := true
  /-- `HSYNC_SOURCE` (R12) -/
  hsyncSource : HsyncSource := .timerCompare
  /-- `WAIT_B` (R12, OPEN) -/
  waitB : WaitOverhead
  /-- `ENTRY_MIN`, `ENTRY_MAX` (R12, OPEN) -/
  entry : LatencyRange
  /-- `DISP_MIN`, `DISP_MAX` (R12, OPEN) -/
  disp : DurationRange
  /-- `ADV_MIN`, `ADV_MAX` (R12, OPEN) -/
  adv : DurationRange
  /-- `DUR_SETC` (R12, OPEN) -/
  durSetc : Duration
  /-- `DUR_TGLS` (R12, OPEN) -/
  durTgls : Duration
  /-- `DUR_RET` (R12, OPEN) -/
  durRet : Duration
  /-- `OUT_LAT_COLOR` (R12, OPEN) -/
  outLatColor : Nat
  /-- `OUT_LAT_SYNC` (R12, OPEN) -/
  outLatSync : Nat
deriving DecidableEq, Repr

/-! The free values: constants with no body, so that nothing can be proved of what they are (log 3, log 4, log 10). -/

/-- Behind the OPEN `WAIT_B` of `Config.default`. -/
opaque Config.openWaitB : Nat
/-- Behind the OPEN `ENTRY_MIN` and `ENTRY_MAX` of `Config.default`. -/
opaque Config.openEntryA : Nat
/-- Behind the OPEN `ENTRY_MIN` and `ENTRY_MAX` of `Config.default`. -/
opaque Config.openEntryB : Nat
/-- Behind the OPEN `DISP_MIN` and `DISP_MAX` of `Config.default`. -/
opaque Config.openDispA : Nat
/-- Behind the OPEN `DISP_MIN` and `DISP_MAX` of `Config.default`. -/
opaque Config.openDispB : Nat
/-- Behind the OPEN `ADV_MIN` and `ADV_MAX` of `Config.default`. -/
opaque Config.openAdvA : Nat
/-- Behind the OPEN `ADV_MIN` and `ADV_MAX` of `Config.default`. -/
opaque Config.openAdvB : Nat
/-- Behind the OPEN `DUR_SETC` of `Config.default`. -/
opaque Config.openDurSetc : Nat
/-- Behind the OPEN `DUR_TGLS` of `Config.default`. -/
opaque Config.openDurTgls : Nat
/-- Behind the OPEN `DUR_RET` of `Config.default`. -/
opaque Config.openDurRet : Nat
/-- The OPEN `OUT_LAT_COLOR` of `Config.default`. -/
opaque Config.openOutLatColor : Nat
/-- The OPEN `OUT_LAT_SYNC` of `Config.default`. -/
opaque Config.openOutLatSync : Nat

/-- The value of the `n`-th draw of a run (R15 `draw`): each draw takes the next `n`, and no law relates two of them (log 4). -/
opaque Config.draw : Nat → Nat

/-- What the counter restart leaves in `TCNT` when `PERIOD` is 0, where the `mod` of R112 has no value (log 10). -/
opaque Config.restartByZero : BitVec 16 → BitVec 16

/-- `WAIT_UNIT`: ticks per Waiter loop iteration (R12, R79; informative). -/
def Config.waitUnit : Nat := 4

/-- An OPEN duration: every duration of the type is one of its values. -/
def Duration.ofFree (x : Nat) : Duration :=
  ⟨x % 65536 + 1, Nat.le_add_left _ _, Nat.succ_le_of_lt (Nat.mod_lt _ (by decide))⟩

/-- An OPEN `WAIT_B`: every overhead of the type is one of its values. -/
def WaitOverhead.ofFree (x : Nat) : WaitOverhead :=
  ⟨x % 65281 + 1, Nat.le_add_left _ _, by have := Nat.mod_lt x (show 65281 > 0 by decide); omega⟩

/-- An OPEN duration range: every range of the type is one of its values. -/
def DurationRange.ofFree (x y : Nat) : DurationRange :=
  ⟨min (x % 65536) (y % 65536) + 1, max (x % 65536) (y % 65536) + 1, Nat.le_add_left _ _, by omega,
    by have := Nat.mod_lt x (show 65536 > 0 by decide); have := Nat.mod_lt y (show 65536 > 0 by decide); omega⟩

/-- An OPEN latency range: every range of the type is one of its values. -/
def LatencyRange.ofFree (x y : Nat) : LatencyRange :=
  ⟨min (x % 65536) (y % 65536), max (x % 65536) (y % 65536), by omega,
    by have := Nat.mod_lt x (show 65536 > 0 by decide); have := Nat.mod_lt y (show 65536 > 0 by decide); omega⟩

/-- The default configuration: the spec's tables and decided parameters, and the OPEN ones free (R10, R12). -/
def Config.default : Config where
  waitB := .ofFree Config.openWaitB
  entry := .ofFree Config.openEntryA Config.openEntryB
  disp := .ofFree Config.openDispA Config.openDispB
  adv := .ofFree Config.openAdvA Config.openAdvB
  durSetc := .ofFree Config.openDurSetc
  durTgls := .ofFree Config.openDurTgls
  durRet := .ofFree Config.openDurRet
  outLatColor := Config.openOutLatColor
  outLatSync := Config.openOutLatSync

end Sys2Proof
end

