-- ==== Sys2Proof/Machine/Tables.lean ====
section
/-! DEFINITION. The phase codes and the constants that follow from a configuration's tables (00_scope.md R6 to R9, R14;
10_state.md R22), with the conditions of 00_scope.md R11 one by one. -/

namespace Sys2Proof

/-- The 2-bit code of a phase (R22). -/
def Phase.code : Phase → BitVec 2
  | .syncPulse => 0
  | .backPorch => 1
  | .activeVideo => 2
  | .frontPorch => 3

/-- The phase of a 2-bit code: every code is a legal phase (R22). -/
def Phase.ofCode (c : BitVec 2) : Phase :=
  match c.toNat with
  | 0 => .syncPulse
  | 1 => .backPorch
  | 2 => .activeVideo
  | _ => .frontPorch

/-- `succ4` of R14 and R22: the next phase in cyclic order, addition of 1 mod 4 on the code (R89). -/
def Phase.succ4 (p : Phase) : Phase := Phase.ofCode (p.code + 1)

/-- `COUNT(p)`: the line allotment of a phase (R7). -/
def Config.count (c : Config) : Phase → Nat
  | .syncPulse => c.vSyncLines
  | .backPorch => c.vBpLines
  | .activeVideo => c.vActiveLines
  | .frontPorch => c.vFpLines

/-- `V_FULL_LINES` (R7) -/
def Config.vFullLines (c : Config) : Nat := c.vSyncLines + c.vBpLines + c.vActiveLines + c.vFpLines

/-- `ACTIVE_START` (R9) -/
def Config.activeStart (c : Config) : Nat := c.hSyncTicks + c.hBpTicks

/-- `BAND_W` (R9): integer division, the last band absorbs the remainder. -/
def Config.bandW (c : Config) : Nat := c.hActiveTicks / c.nBands

/-- `BAND_START(k)` (R9) -/
def Config.bandStart (c : Config) (k : Nat) : Nat := c.activeStart + k * c.bandW

/-- `ACTIVE_END` (R9) -/
def Config.activeEnd (c : Config) : Nat := c.activeStart + c.hActiveTicks

/-- The frame period in ticks (R9). -/
def Config.framePeriod (c : Config) : Nat := c.vFullLines * c.hFullLineNbTicks

/-- The WAIT targets of `P_ACTIVE`, in ROM order (R68). -/
def Config.activeTargets (c : Config) : List Nat :=
  [c.bandStart 0, c.bandStart 1, c.bandStart 2, c.bandStart 3, c.bandStart 4, c.bandStart 5, c.bandStart 6, c.bandStart 7,
    c.activeEnd]

/-- The WAIT targets of `P_EDGE` (R69). -/
def Config.edgeTargets (c : Config) : List Nat := [c.activeStart]

/-- Every two consecutive elements lie at most 255 apart. -/
def gapsAtMost255 : List Nat → Bool
  | a :: b :: rest => decide (b - a ≤ 255) && decide (a - b ≤ 255) && gapsAtMost255 (b :: rest)
  | _ => true

/-- R11 (1): every `COUNT(p)` is at least 1. -/
def Config.linesPositive (c : Config) : Bool :=
  decide (1 ≤ c.vSyncLines) && decide (1 ≤ c.vBpLines) && decide (1 ≤ c.vActiveLines) && decide (1 ≤ c.vFpLines)

/-- R11 (2): every `H_*_TICKS` entry is at least 1, and the full line is their sum. -/
def Config.ticksSum (c : Config) : Bool :=
  decide (1 ≤ c.hSyncTicks) && decide (1 ≤ c.hBpTicks) && decide (1 ≤ c.hActiveTicks) && decide (1 ≤ c.hFpTicks) &&
    decide (c.hFullLineNbTicks = c.hSyncTicks + c.hBpTicks + c.hActiveTicks + c.hFpTicks)

/-- R11 (3): `BAND_W` is at least 1. -/
def Config.bandWPositive (c : Config) : Bool := decide (1 ≤ c.bandW)

/-- R11 (4): `ACTIVE_END < H_FULL_LINE_NB_TICKS`. -/
def Config.activeEndsInLine (c : Config) : Bool := decide (c.activeEnd < c.hFullLineNbTicks)

/-- R11 (5): consecutive WAIT targets in each line program are at most 255 ticks apart (`P_PLAIN` has none). -/
def Config.targetGaps (c : Config) : Bool := gapsAtMost255 c.activeTargets && gapsAtMost255 c.edgeTargets

/-- R11 (6): every `COUNT(p)` fits in the 16 bits of `LINES_REM`. -/
def Config.linesFit (c : Config) : Bool :=
  decide (c.vSyncLines < 65536) && decide (c.vBpLines < 65536) && decide (c.vActiveLines < 65536) &&
    decide (c.vFpLines < 65536)

/-- R11 (7): `H_FULL_LINE_NB_TICKS` fits in the 16 bits of `TCNT`. -/
def Config.periodFits (c : Config) : Bool := decide (c.hFullLineNbTicks < 65536)

/-- DESIGN CHOICE, safe (log 2): `N_BANDS` is 8, because R68 lays out exactly the bands k = 0..7 in the ROM. -/
def Config.eightBands (c : Config) : Bool := decide (c.nBands = 8)

/-- The decomposition of an in-window WAIT's cost (R79): `delta div WAIT_UNIT` iterations of `WAIT_UNIT` ticks, the padding
path `PAD(delta mod WAIT_UNIT)`, and the overhead `WAIT_B`. -/
def Config.waitCost (c : Config) (delta : Nat) : Nat :=
  Config.waitUnit * (delta / Config.waitUnit) + delta % Config.waitUnit + c.waitB.ticks

end Sys2Proof
end

