-- ==== Sys2Proof/Syntax.lean ====
section
/-! DEFINITION. The micro-ops: one constructor per row of spec/opcode_table.json (30_encoding.md R61). -/

namespace Sys2Proof

/-- A micro-op with its operands, each of its encoded width (R59, R60). No micro-op has a register operand. -/
inductive Instr where
  /-- WAIT: `t8`, the low byte of the absolute target tick offset (R75). -/
  | wait (t8 : BitVec 8)
  /-- SETC: `c3`, a colour code (R92). -/
  | setc (c3 : Colour)
  /-- TGLS (R93) -/
  | tgls
  /-- ADV (R84) -/
  | adv
  /-- RET (R105) -/
  | ret
  /-- DISP (R96) -/
  | disp
deriving DecidableEq, Repr

/-- The operand formats of R59. -/
inductive Format where
  | Z
  | T8
  | C3
deriving DecidableEq, Repr

end Sys2Proof
end

