-- ==== Sys2Proof/WellFormed.lean ====
section
/-! DEFINITION. Well-formed instructions and well-formed configurations (00_scope.md R11). -/

namespace Sys2Proof

/-- Every micro-op with operands of its operand widths is well-formed (R59, R60, R92 "All 8 codes are legal"): the widths are
the types of `Instr`'s fields, so no ill-formed micro-op can be written down. -/
def Instr.wellFormed : Instr → Bool
  | .wait _ => true
  | .setc _ => true
  | .tgls => true
  | .adv => true
  | .ret => true
  | .disp => true

/-- A configuration is well-formed: the seven conditions of R11, and `N_BANDS = 8` (log 2). A model refuses any other. -/
def Config.wellFormed (c : Config) : Bool :=
  c.linesPositive && c.ticksSum && c.bandWPositive && c.activeEndsInLine && c.targetGaps && c.linesFit && c.periodFits &&
    c.eightBands

end Sys2Proof
end

