-- ==== Sys2Proof/Decode.lean ====
section
/-! DEFINITION. The opcode table, the decoder, the encoder and the assembler (30_encoding.md). -/

namespace Sys2Proof

/-- One row of the opcode map (R61). -/
structure OpRow where
  op : BitVec 4
  format : Format
  matchBits : Word
  mask : Word
deriving DecidableEq, Repr

/-- The row of the opcode map that a micro-op belongs to (R61). -/
def Instr.row : Instr → OpRow
  | .wait _ => ⟨0x1, .T8, 0x1000, 0xFF00⟩
  | .setc _ => ⟨0x2, .C3, 0x2000, 0xFFF8⟩
  | .tgls => ⟨0x3, .Z, 0x3000, 0xFFFF⟩
  | .adv => ⟨0x4, .Z, 0x4000, 0xFFFF⟩
  | .ret => ⟨0x5, .Z, 0x5000, 0xFFFF⟩
  | .disp => ⟨0x6, .Z, 0x6000, 0xFFFF⟩

/-- The opcode map, one row per mnemonic (R61). -/
def opcodeRows : List OpRow :=
  [Instr.row (.wait 0), Instr.row (.setc 0), Instr.row .tgls, Instr.row .adv, Instr.row .ret, Instr.row .disp]

/-- A word matches a row when `word & mask = match` (R61). -/
def OpRow.matches (r : OpRow) (w : Word) : Bool := w &&& r.mask == r.matchBits

/-- Why a word is `Illegal`: a reserved `OP` (R62), or an assigned `OP` with a must-be-zero bit set (R63). -/
inductive Illegal where
  | reservedOp (op : BitVec 4)
  | mustBeZero (op : BitVec 4)
deriving DecidableEq, Repr

/-- A word decodes either to a micro-op or to `Illegal` (R64). -/
inductive Decoded where
  | op (i : Instr)
  | illegal (why : Illegal)
deriving DecidableEq, Repr

/-- `OP`, bits 15:12 of a word (R58). -/
def opField (w : Word) : BitVec 4 := w.extractLsb' 12 4

/-- The decoder (R64), total on every word. -/
def decode (w : Word) : Decoded :=
  match (opField w).toNat with
  | 1 => if w.extractLsb' 8 4 = 0 then .op (.wait (w.extractLsb' 0 8)) else .illegal (.mustBeZero (opField w))
  | 2 => if w.extractLsb' 3 9 = 0 then .op (.setc (w.extractLsb' 0 3)) else .illegal (.mustBeZero (opField w))
  | 3 => if w.extractLsb' 0 12 = 0 then .op .tgls else .illegal (.mustBeZero (opField w))
  | 4 => if w.extractLsb' 0 12 = 0 then .op .adv else .illegal (.mustBeZero (opField w))
  | 5 => if w.extractLsb' 0 12 = 0 then .op .ret else .illegal (.mustBeZero (opField w))
  | 6 => if w.extractLsb' 0 12 = 0 then .op .disp else .illegal (.mustBeZero (opField w))
  | _ => .illegal (.reservedOp (opField w))

/-- The encoder: the word of a micro-op, `OP` in bits 15:12 and the operand zero-extended in its field (R59 to R61). -/
def encode : Instr → Word
  | .wait t8 => 0x10#8 ++ t8
  | .setc c3 => 0b0010000000000#13 ++ c3
  | .tgls => 0x3000#16
  | .adv => 0x4000#16
  | .ret => 0x5000#16
  | .disp => 0x6000#16

/-- The instruction the decoder reads from an opcode-table word of `nbits` bits: the hardware's word is the number itself, one
16-bit word with bit 0 its least significant bit (R13, R58); a longer or wider number is no word of this machine. -/
def decodeTableWord (nbits w : Nat) : Option Instr :=
  if nbits ≤ 16 ∧ w < 2 ^ nbits then
    match decode (BitVec.ofNat 16 w) with
    | .op i => some i
    | .illegal _ => none
  else none

/-! The assembler of R74. -/

/-- The colour names of the assembly syntax (R25, R74). -/
inductive ColourName where
  | black | red | green | yellow | blue | magenta | cyan | white
deriving DecidableEq, Repr

/-- The code of a colour name (R25). -/
def ColourName.code : ColourName → Colour
  | .black => 0
  | .red => 1
  | .green => 2
  | .yellow => 3
  | .blue => 4
  | .magenta => 5
  | .cyan => 6
  | .white => 7

/-- One line of the assembly syntax (R74). -/
inductive AsmLine where
  | wait (abs : Nat)
  | setcCode (c : Nat)
  | setcName (n : ColourName)
  | tgls
  | adv
  | ret
  | disp
  | blank
deriving DecidableEq, Repr

/-- A ROM entry as the assembler makes it: the word, and the recorded `TARGET_ABS` of a WAIT (R73, R74). -/
structure Slot where
  word : Word
  target : Option Nat
deriving DecidableEq, Repr

/-- The entry of a WAIT with absolute target `abs`: `0x1000 | (abs mod 256)`, recording `TARGET_ABS = abs` (R74, R81). -/
def Slot.wait (abs : Nat) : Slot := ⟨encode (.wait (BitVec.ofNat 8 (abs % 256))), some abs⟩

/-- The entry of a micro-op that has no target (R73: empty for other entries). -/
def Slot.plain (i : Instr) : Slot := ⟨encode i, none⟩

/-- Assemble one line; `none` is a refusal: an `abs` outside `0..PERIOD-1`, a `c` outside `0..7` (R74). -/
def assemble (period : Nat) : AsmLine → Option Slot
  | .wait abs => if abs < period then some (Slot.wait abs) else none
  | .setcCode c => if c < 8 then some (Slot.plain (.setc (BitVec.ofNat 3 c))) else none
  | .setcName n => some (Slot.plain (.setc n.code))
  | .tgls => some (Slot.plain .tgls)
  | .adv => some (Slot.plain .adv)
  | .ret => some (Slot.plain .ret)
  | .disp => some (Slot.plain .disp)
  | .blank => some (Slot.plain (.setc 0))

/-- The text of a line before its comment, which starts with `;` (R74). -/
def dropComment : List Char → List Char
  | [] => []
  | c :: cs => if c = ';' then [] else c :: dropComment cs

/-- The words of a line: the runs of characters that are no space and no tab (log 18). -/
def asmWords : List Char → List (List Char)
  | [] => []
  | c :: cs =>
    if c = ' ' ∨ c = '\t' then [] :: asmWords cs
    else
      match asmWords cs with
      | [] => [[c]]
      | w :: ws => (c :: w) :: ws

/-- A decimal number (R74), one or more digits. -/
def decimal? : List Char → Option Nat
  | [] => none
  | cs => cs.foldl (fun acc c =>
      match acc with
      | none => none
      | some n => if '0' ≤ c ∧ c ≤ '9' then some (10 * n + (c.toNat - '0'.toNat)) else none) (some 0)

/-- The colour name a word spells (R74). -/
def colourName? (w : List Char) : Option ColourName :=
  if w = ['b', 'l', 'a', 'c', 'k'] then some .black
  else if w = ['r', 'e', 'd'] then some .red
  else if w = ['g', 'r', 'e', 'e', 'n'] then some .green
  else if w = ['y', 'e', 'l', 'l', 'o', 'w'] then some .yellow
  else if w = ['b', 'l', 'u', 'e'] then some .blue
  else if w = ['m', 'a', 'g', 'e', 'n', 't', 'a'] then some .magenta
  else if w = ['c', 'y', 'a', 'n'] then some .cyan
  else if w = ['w', 'h', 'i', 't', 'e'] then some .white
  else none

/-- The line that a text spells (R74), if it spells one. -/
def parseAsm (text : List Char) : Option AsmLine :=
  match (asmWords (dropComment text)).filter (fun w => !w.isEmpty) with
  | [m] =>
    if m = ['T', 'G', 'L', 'S'] then some .tgls
    else if m = ['A', 'D', 'V'] then some .adv
    else if m = ['R', 'E', 'T'] then some .ret
    else if m = ['D', 'I', 'S', 'P'] then some .disp
    else if m = ['B', 'L', 'A', 'N', 'K'] then some .blank
    else none
  | [m, a] =>
    if m = ['W', 'A', 'I', 'T'] then (decimal? a).map AsmLine.wait
    else if m = ['S', 'E', 'T', 'C'] then
      match decimal? a with
      | some c => some (.setcCode c)
      | none => (colourName? a).map AsmLine.setcName
    else none
  | _ => none

end Sys2Proof
end

