-- ==== Sys2Proof/Machine/Rom.lean ====
section
/-! DEFINITION. The line programs and the ROM layout of a configuration (30_encoding.md R66 to R73). -/

namespace Sys2Proof

/-- `IDLE_PC`: the `SEQ_PC` of a Sequencer outside any line program (R20, R66). -/
def idlePc : RomIndex := 31

/-- `BASE_ACTIVE` (R66) -/
def baseActive : RomIndex := 1

/-- `BASE_EDGE` (R66) -/
def baseEdge : RomIndex := 21

/-- `BASE_PLAIN` (R66) -/
def basePlain : RomIndex := 25

/-- The event vector: ROM index 0 (R67, R120). -/
def entryPc : RomIndex := 0

/-- The WAIT and the SETC of band `k` (R68). -/
def Config.bandSlots (c : Config) (k : Fin 8) : List Slot :=
  [Slot.wait (c.bandStart k), Slot.plain (.setc c.bandColors[k])]

/-- `P_ACTIVE`, indices 1..20 (R68). -/
def Config.activeProgram (c : Config) : List Slot :=
  c.bandSlots 0 ++ c.bandSlots 1 ++ c.bandSlots 2 ++ c.bandSlots 3 ++ c.bandSlots 4 ++ c.bandSlots 5 ++ c.bandSlots 6 ++
    c.bandSlots 7 ++ [Slot.wait c.activeEnd, Slot.plain (.setc 0), Slot.plain .adv, Slot.plain .ret]

/-- `P_EDGE`, indices 21..24 (R69). -/
def Config.edgeProgram (c : Config) : List Slot :=
  [Slot.wait c.activeStart, Slot.plain .tgls, Slot.plain .adv, Slot.plain .ret]

/-- `P_PLAIN`, indices 25..26 (R69). -/
def plainProgram : List Slot := [Slot.plain .adv, Slot.plain .ret]

/-- A reserved entry: the word 0x0000 (R70). -/
def reservedSlot : Slot := ⟨0x0000, none⟩

/-- The 32 entries: DISP at index 0, the three programs, and the reserved entries 27..31 (R66 to R70). -/
def Config.slots (c : Config) : List Slot :=
  [Slot.plain .disp] ++ c.activeProgram ++ c.edgeProgram ++ plainProgram ++ List.replicate 5 reservedSlot

/-- `ROM[0..31]` of a configuration (R36, R71). -/
def Config.rom (c : Config) : Vector Word 32 := ⟨⟨c.slots.map Slot.word⟩, rfl⟩

/-- `TARGET_ABS[0..31]` of a configuration, ghost (R36, R73). -/
def Config.targetAbs (c : Config) : Vector (Option Nat) 32 := ⟨⟨c.slots.map Slot.target⟩, rfl⟩

end Sys2Proof
end

