-- ==== Sys2Proof/Machine/State.lean ====
section
/-! DEFINITION. The machine's state (10_state.md R21, R36; 00_scope.md R16), its stops, and the state at power-on. -/

namespace Sys2Proof.Machine

/-- The fault codes of R110. None of them traps or stops a step: each sets its bit of `FAULTS` (`State.raise`). -/
inductive FaultCode where
  /-- code 1: a WAIT issued out of its window (R78) -/
  | tvWaitMissed
  /-- code 2: a Frame-Clock event while the Sequencer is busy (R118) -/
  | tvOverrun
  /-- code 3: a Frame-Clock event while an earlier one is pending (R119) -/
  | tvLostEvent
  /-- code 4: an ill-formed configuration; never raised in a run, it is the reason of a refusal (R110, R147) -/
  | peBadConfig
  /-- code 5: a second INIT (R137) -/
  | peReinit
  /-- code 6: the issued ROM word is `Illegal` (R65) -/
  | illegalOp
  /-- code 7: ADV met `LINES_REM` outside `1..COUNT(PHASE)` (R85) -/
  | invariant
deriving DecidableEq, Repr

/-- The reasons for which a step stops with a fault: none. "A run has no end" and "Nothing in the block halts" (R132); every
fault of R110 leaves a next state. Safe: no behaviour is lost. -/
inductive Fault where
deriving DecidableEq, Repr

/-- The reasons for which a step gives no meaning. -/
inductive Refusal where
  /-- Raised by a refused arm of `exec`, by mnemonic; no arm is refused in this model. Safe. -/
  | notModelled (mnemonic : String)
  /-- Raised by `step` on a configuration that fails R11: "A model refuses a configuration that fails any of them; it has no
  run" (reason `PE_BAD_CONFIG`, R110, R147). Safe: the spec gives such a configuration no run. -/
  | peBadConfig
deriving DecidableEq, Repr

/-- The event record that R110 allows a model: what was raised first, at which tick, at which `SEQ_PC`. -/
structure FirstRaise where
  code : FaultCode
  tick : Nat
  seqPc : RomIndex
deriving DecidableEq, Repr

/-- The whole state of the block. -/
structure State where
  /-- `PHASE` (R22) -/
  phase : Phase
  /-- `LINES_REM` (R23) -/
  linesRem : BitVec 16
  /-- `COLOR` (R25) -/
  color : Colour
  /-- `SYNC_C`, a level (R26) -/
  syncC : Bool
  /-- `TCNT` (R27) -/
  tcnt : BitVec 16
  /-- `PERIOD` (R28) -/
  period : BitVec 16
  /-- `TCTRL.ARMED` (R29) -/
  armed : Bool
  /-- `TCTRL.EVT_IE` (R29) -/
  evtIE : Bool
  /-- `ISTAT.GIE` (R30) -/
  gie : Bool
  /-- `ISTAT.PENDING` (R30) -/
  pending : Bool
  /-- `ISTAT.EVT_FLAG` (R30) -/
  evtFlag : Bool
  /-- `SEQ_PC` (R20) -/
  seqPc : RomIndex
  /-- `OPCNT` (R31). DEDUCED, safe: a natural number, because R75 lets a missed WAIT load any `d - 1` (log 5). -/
  opcnt : Nat
  /-- `ENTRYCNT` (R32) -/
  entrycnt : BitVec 16
  /-- `FAULTS`, ghost (R34) -/
  faults : BitVec 8
  /-- `INITED` (R35) -/
  inited : Bool
  /-- The configuration this machine was built with; nothing writes it (R36, log 1). -/
  cfg : Config
  /-- `ROM[0..31]`; nothing writes it (R36, R46, log 15). -/
  rom : Vector Word 32
  /-- `TARGET_ABS[0..31]`, ghost; nothing writes it (R36, R73). -/
  targetAbs : Vector (Option Nat) 32
  /-- What `COLOR` held in the last `OUT_LAT_COLOR` ticks since INIT, latest first (R38, log 12). -/
  colorLine : List Colour
  /-- What `SYNC_C` held in the last `OUT_LAT_SYNC` ticks since INIT, latest first (R39, log 12). -/
  syncLine : List Bool
  /-- `τ`, ghost: the index of this tick (R16). -/
  tau : Nat
  /-- `τ_init`, ghost: the tick of INIT (R38, R113). -/
  tauInit : Option Nat
  /-- The first raise, ghost (R110). -/
  firstRaise : Option FirstRaise
  /-- The level of the `HOST_INIT` port at this tick and the coming ones; 0 where the list has ended (R37, R135, log 9). -/
  hostInit : List Bool
  /-- The model's own field: how many draws have been taken (R15, log 4). -/
  draws : Nat
deriving DecidableEq, Repr

/-- Power-on: the pre-INIT column of R21 and R138. DESIGN CHOICE, unsafe: the six elements that R21 leaves unspecified are 0
(log 8); the Host strobes INIT at the first tick (log 9); the ghosts count from 0 (log 4, log 13). -/
def State.reset : State where
  phase := .syncPulse
  linesRem := 0
  color := 0
  syncC := false
  tcnt := 0
  period := 0
  armed := false
  evtIE := false
  gie := false
  pending := false
  evtFlag := false
  seqPc := 31
  opcnt := 0
  entrycnt := 0
  faults := 0
  inited := false
  cfg := Config.default
  rom := Config.default.rom
  targetAbs := Config.default.targetAbs
  colorLine := []
  syncLine := []
  tau := 0
  tauInit := none
  firstRaise := none
  hostInit := [true]
  draws := 0

end Sys2Proof.Machine
end

