-- ==== Sys2Proof/Machine/Flags.lean ====
section
/-! DEFINITION. The status bits. The block has no condition codes (10_state.md R41): its status is `ISTAT`, `TCTRL` and the
sticky `FAULTS` vector (R29, R30, R34, R110, R111). -/

namespace Sys2Proof.Machine

/-- The code of a fault: its bit of `FAULTS` (R110). -/
def FaultCode.code : FaultCode → Nat
  | .tvWaitMissed => 1
  | .tvOverrun => 2
  | .tvLostEvent => 3
  | .peBadConfig => 4
  | .peReinit => 5
  | .illegalOp => 6
  | .invariant => 7

/-- The mask of a fault's bit in `FAULTS` (R34, R110). -/
def FaultCode.bit (f : FaultCode) : BitVec 8 := 1#8 <<< f.code

/-- `raise F`: set the sticky bit of `F` and go on (R15, R111); the first raise of a run is recorded (R110). -/
def State.raise (s : State) (f : FaultCode) : State :=
  { s with
    faults := s.faults ||| f.bit
    firstRaise := s.firstRaise.or (some ⟨f, s.tau, s.seqPc⟩) }

/-- Has fault `f` been raised? -/
def State.raised (s : State) (f : FaultCode) : Bool := s.faults.getLsbD f.code

/-- The bit of a Boolean. -/
def bit (b : Bool) : BitVec 1 := BitVec.ofBool b

/-- `TCTRL` as its 8-bit register: `OTHER_SRC` hardwired 0 in bits 7:3, `EVT_IE` in bit 2, `AUTORESTART` hardwired 1 in bit 1,
`ARMED` in bit 0 (R29). -/
def State.tctrl (s : State) : BitVec 8 := 0#5 ++ bit s.evtIE ++ 1#1 ++ bit s.armed

/-- `ISTAT` as its 3-bit register: `EVT_FLAG` in bit 2, `PENDING` in bit 1, `GIE` in bit 0 (R30). -/
def State.istat (s : State) : BitVec 3 := bit s.evtFlag ++ bit s.pending ++ bit s.gie

end Sys2Proof.Machine
end

