-- ==== Sys2Proof/Machine/Operands.lean ====
section
/-! DEFINITION. The operand forms: the tick target of WAIT with its window (41_waiter.md R76, R77), the fields of the
selection (43_signal_driver.md R97), and the reads of the ROM (30_encoding.md R71, R73). -/

namespace Sys2Proof.Machine

/-- `LOW8(v) = v[7:0]` (R13, R47). -/
def low8 (v : BitVec 16) : BitVec 8 := v.extractLsb' 0 8

/-- `delta = (t8 - LOW8(TCNT)) mod 256`, the 8-bit modular difference (R76). -/
def waitDelta (t8 : BitVec 8) (tcnt : BitVec 16) : Nat := (t8 - low8 tcnt).toNat

/-- `ROM[i]`: one whole word by its index (R46). -/
def State.romWord (s : State) (i : RomIndex) : Word := s.rom[i.toNat]

/-- `TARGET_ABS[i]`, ghost (R73). -/
def State.target (s : State) (i : RomIndex) : Option Nat := s.targetAbs[i.toNat]

/-- `InWindow(i, n)`: the target is not passed, and at most 255 ticks ahead (R77). DESIGN CHOICE, safe (log 7): an entry with
no target has no window. -/
def State.inWindow (s : State) (i : RomIndex) (n : BitVec 16) : Bool :=
  match s.target i with
  | some t => decide (n.toNat ≤ t) && decide (t - n.toNat ≤ 255)
  | none => false

/-- `Select(p, r)` (R97): the base of the line program. -/
def select (p : Phase) (r : BitVec 16) : RomIndex :=
  if p = .activeVideo then baseActive
  else if (p = .syncPulse ∨ p = .frontPorch) ∧ r = 1 then baseEdge
  else basePlain

/-- A boundary line is the last line of SyncPulse or FrontPorch (R99). -/
def State.boundaryLine (s : State) : Bool :=
  (decide (s.phase = .syncPulse) || decide (s.phase = .frontPorch)) && decide (s.linesRem = 1)

/-- The value a draw in `[lo, hi]` takes: the next free value, brought into the range (R15, log 4). -/
def State.drawn (s : State) (lo hi : Nat) : Nat :=
  if hi ≤ lo then lo else lo + Config.draw s.draws % (hi - lo + 1)

/-- The value a draw in `[lo, +inf)` takes: the next free value, unbounded (R75, log 4). -/
def State.drawnFrom (s : State) (lo : Nat) : Nat := lo + Config.draw s.draws

/-- A draw has been taken: the next one is another (log 4). -/
def State.afterDraw (s : State) : State := { s with draws := s.draws + 1 }

end Sys2Proof.Machine
end

