-- ==== Sys2Proof/Machine/Ops.lean ====
section
/-! DEFINITION. The named operations that the meanings and the tick step share: issuing on, taking the event and returning from
it (60_exceptions.md R116 to R120, R123; 43_signal_driver.md R105), the Frame Clock (60_exceptions.md R112), INIT
(70_reset_and_hazards.md R136), and the pins (10_state.md R38 to R40). -/

namespace Sys2Proof.Machine

/-- `Busy(S)`: the Sequencer is inside a line program, or its last micro-op still runs (R33). -/
def State.busy (s : State) : Bool := decide (s.seqPc ≠ idlePc) || decide (s.opcnt ≠ 0)

/-- The two contexts (R126). -/
inductive Context where
  | idle
  | handler
deriving DecidableEq, Repr

/-- The context of a state: Handler exactly while the Sequencer is busy (R33, R126). DESIGN CHOICE, safe (log 19): a state before
INIT, where R126 has neither context yet, is called Idle, because `Busy` is false there. -/
def State.context (s : State) : Context := if s.busy then .handler else .idle

/-- A micro-op of duration `d` is issued: `OPCNT <- d - 1` (R31). -/
def State.run (s : State) (d : Nat) : State := { s with opcnt := d - 1 }

/-- `SEQ_PC <- SEQ_PC + 1` (R20). DEDUCED, safe: addition on the 5 bits; index 31 is never issued (R106, log 11). -/
def State.nextPc (s : State) : State := { s with seqPc := s.seqPc + 1 }

/-- TAKING THE EVENT, its delivery (R106 phase 1, R117 to R119): where the event flag and its enable are set, a busy Sequencer
is an overrun and a pending event is lost; the event is latched, and the latency of its entry is drawn. -/
def State.deliver (s : State) : State :=
  if s.evtFlag && s.evtIE then
    let s1 := if s.busy then s.raise .tvOverrun else s
    let s2 := if s1.pending then s1.raise .tvLostEvent else s1
    { s2.afterDraw with
      pending := true
      entrycnt := BitVec.ofNat 16 (s2.drawn s.cfg.entry.lo s.cfg.entry.hi) }
  else s

/-- TAKING THE EVENT, its entry (R120): the latch is cleared and the Sequencer stands at the vector, ROM index 0. Nothing is
saved, no mask and no mode changes. -/
def State.enterEvent (s : State) : State := { s with pending := false, seqPc := entryPc, opcnt := 0 }

/-- THE RETURN from the event (R105, R123): the Sequencer leaves the line program. Nothing is restored, because entry saved
nothing. -/
def State.leaveProgram (s : State) : State := { s with seqPc := idlePc }

/-- Issue of an `Illegal` word (R65, R107): raise `ILLEGAL_OP` and abandon the line program. -/
def State.abandon (s : State) : State := { (s.raise .illegalOp).leaveProgram with opcnt := 0 }

/-- `(TCNT + 1) mod PERIOD` (R112); with `PERIOD = 0`, where `mod` has no value, a free value (log 10). -/
def restart (tcnt period : BitVec 16) : BitVec 16 :=
  if period = 0 then Config.restartByZero tcnt else BitVec.ofNat 16 ((tcnt.toNat + 1) % period.toNat)

/-- One step of the Frame Clock (R106 phase 3, R112). -/
def State.frameClock (s : State) : State :=
  if s.armed then
    { s with
      tcnt := restart s.tcnt s.period
      evtFlag := decide (restart s.tcnt s.period = 0) }
  else s

/-- The registers enter their pins' delay lines (R38, R39). -/
def State.latchPins (s : State) : State :=
  { s with
    colorLine := (s.color :: s.colorLine).take s.cfg.outLatColor
    syncLine := (s.syncC :: s.syncLine).take s.cfg.outLatSync }

/-- The tick is over: `τ + 1` (R16). -/
def State.endTick (s : State) : State := { s with tau := s.tau + 1 }

/-- The strobe of `HOST_INIT` at this tick (R135). -/
def State.strobe (s : State) : Bool := s.hostInit.headD false

/-- The strobe port moves on to the next tick (log 9). -/
def State.popStrobe (s : State) : State := { s with hostInit := s.hostInit.tail }

/-- `Init(S)` with `INITED = 0` (R136), one atomic transition in place of the tick step (R135). -/
def State.init (s : State) : State :=
  { s with
    color := 0
    syncC := s.cfg.syncIdleLevel
    phase := .frontPorch
    linesRem := BitVec.ofNat 16 (s.cfg.count .frontPorch)
    period := BitVec.ofNat 16 s.cfg.hFullLineNbTicks
    tcnt := 0
    evtFlag := false
    pending := false
    entrycnt := 0
    seqPc := idlePc
    opcnt := 0
    evtIE := true
    armed := true
    gie := true
    inited := true
    colorLine := []
    syncLine := []
    tauInit := some s.tau }

/-! The pins (R37). `none` is X: undriven, a model admits any value (R38, log 12). -/

/-- The levels of the output ports at a tick (R37). -/
structure Pins where
  rgb : Option Colour
  vsync : Option Bool
  hsync : Option Bool
deriving DecidableEq, Repr

/-- `RGB`: what `COLOR` held `OUT_LAT_COLOR` ticks ago, if INIT was before that (R38). -/
def State.rgb (s : State) : Option Colour :=
  if s.inited then (s.color :: s.colorLine)[s.cfg.outLatColor]? else none

/-- `VSYNC`: what `SYNC_C` held `OUT_LAT_SYNC` ticks ago, if INIT was before that (R39). -/
def State.vsync (s : State) : Option Bool :=
  if s.inited then (s.syncC :: s.syncLine)[s.cfg.outLatSync]? else none

/-- `HSYNC`: the compare output of the Frame Clock, with no delay; X under `UNDRIVEN` (R40, R127). -/
def State.hsync (s : State) : Option Bool :=
  match s.cfg.hsyncSource with
  | .timerCompare =>
    if s.armed && decide (s.tcnt.toNat < s.cfg.hSyncTicks) then some (!s.cfg.syncIdleLevel)
    else if s.inited then some s.cfg.syncIdleLevel
    else none
  | .undriven => none

/-- The output ports (R37 to R40). -/
def State.pins (s : State) : Pins := ⟨s.rgb, s.vsync, s.hsync⟩

/-- What a claim may read off the pins: once any fault has been raised, nothing is guaranteed of them, and every pin is X
(R111, R133). -/
def State.observe (s : State) : Pins := if s.faults = 0 then s.pins else ⟨none, none, none⟩

end Sys2Proof.Machine
end

