-- ==== Sys2Proof/Machine/PhaseMachine.lean ====
section
/-! DEFINITION. The Phase State Machine: the meaning of ADV (42_phase_machine.md). -/

namespace Sys2Proof.Machine

/-- The advance of (`PHASE`, `LINES_REM`) by one line, or the ghost `INVARIANT` (R84, R85). -/
def State.advance (s : State) : State :=
  if s.linesRem = 0 ∨ s.cfg.count s.phase < s.linesRem.toNat then s.raise .invariant
  else if s.linesRem = 1 then
    { s with
      phase := s.phase.succ4
      linesRem := BitVec.ofNat 16 (s.cfg.count s.phase.succ4) }
  else { s with linesRem := s.linesRem - 1 }

/-- ADV (R84): the advance, and a drawn duration. -/
def execAdv (s : State) : Host.Outcome State Fault Refusal :=
  .next (s.advance.afterDraw.nextPc.run (s.drawn s.cfg.adv.lo s.cfg.adv.hi))

end Sys2Proof.Machine
end

