-- ==== Sys2Proof/Machine/SignalDriver.lean ====
section
/-! DEFINITION. The Signal Driver: the meanings of SETC, TGLS, DISP and RET (43_signal_driver.md). -/

namespace Sys2Proof.Machine

/-- SETC c3 (R92). -/
def execSetc (c3 : Colour) (s : State) : Host.Outcome State Fault Refusal :=
  .next { s.nextPc.run s.cfg.durSetc.ticks with color := c3 }

/-- TGLS (R93). -/
def execTgls (s : State) : Host.Outcome State Fault Refusal :=
  .next { s.nextPc.run s.cfg.durTgls.ticks with syncC := !s.syncC }

/-- DISP (R96): select the line program; a drawn duration. -/
def execDisp (s : State) : Host.Outcome State Fault Refusal :=
  .next ({ s.afterDraw with seqPc := select s.phase s.linesRem }.run (s.drawn s.cfg.disp.lo s.cfg.disp.hi))

/-- RET (R105): the return from the event; busy until its duration has elapsed. -/
def execRet (s : State) : Host.Outcome State Fault Refusal :=
  .next (s.leaveProgram.run s.cfg.durRet.ticks)

end Sys2Proof.Machine
end

