-- ==== Sys2Proof/Machine/Waiter.lean ====
section
/-! DEFINITION. The Cycle-Exact Waiter: the meaning of WAIT (41_waiter.md). -/

namespace Sys2Proof.Machine

/-- The duration of an in-window WAIT: `delta + WAIT_B` (R75, R79). -/
def State.waitTicks (s : State) (t8 : BitVec 8) : Nat := waitDelta t8 s.tcnt + s.cfg.waitB.ticks

/-- A WAIT in its window stalls for `delta + WAIT_B` (R75). -/
def State.waitHit (s : State) (t8 : BitVec 8) : State := s.nextPc.run (s.waitTicks t8)

/-- A missed WAIT raises `TV_WAIT_MISSED` and stalls for any duration of 1 or more (R78). -/
def State.waitMiss (s : State) : State :=
  let m := s.raise .tvWaitMissed
  m.afterDraw.nextPc.run (m.drawnFrom 1)

/-- WAIT t8 (R75). -/
def execWait (t8 : BitVec 8) (s : State) : Host.Outcome State Fault Refusal :=
  .next (if s.inWindow s.seqPc s.tcnt then s.waitHit t8 else s.waitMiss)

end Sys2Proof.Machine
end

