-- ==== Sys2Proof/Machine/Dispatch.lean ====
section
/-! DEFINITION. One arm per micro-op. -/

namespace Sys2Proof.Machine

def exec (i : Instr) (s : State) : Host.Outcome State Fault Refusal :=
  match i with
  | .wait t8 => Sys2Proof.Machine.execWait t8 s
  | .setc c3 => Sys2Proof.Machine.execSetc c3 s
  | .tgls => Sys2Proof.Machine.execTgls s
  | .adv => Sys2Proof.Machine.execAdv s
  | .ret => Sys2Proof.Machine.execRet s
  | .disp => Sys2Proof.Machine.execDisp s

end Sys2Proof.Machine
end

