-- ==== Sys2Proof/Machine/Sequencer.lean ====
section
/-! DEFINITION. Issue and the tick step (43_signal_driver.md R106, R107), and the tick of INIT (70_reset_and_hazards.md R135 to
R137). -/

namespace Sys2Proof.Machine

/-- Carry on from a next state. -/
def andThen (o : Host.Outcome State Fault Refusal) (f : State → State) : Host.Outcome State Fault Refusal :=
  match o with
  | .next s => .next (f s)
  | .fault r => .fault r
  | .refused r => .refused r

/-- `Issue(W)` (R107): run the micro-op at `SEQ_PC`, or abandon the program on an `Illegal` word. -/
def issue (w : State) : Host.Outcome State Fault Refusal :=
  match decode (w.romWord w.seqPc) with
  | .op i => exec i w
  | .illegal _ => .next w.abandon

/-- Phase 2 of the tick step (R106): the Sequencer. -/
def sequencer (w : State) : Host.Outcome State Fault Refusal :=
  if !w.busy then
    if w.pending && w.gie then
      if w.entrycnt = 0 then issue w.enterEvent else .next { w with entrycnt := w.entrycnt - 1 }
    else .next w
  else if 0 < w.opcnt then .next { w with opcnt := w.opcnt - 1 }
  else issue w

/-- `Step(S)` (R106): nothing before INIT; then delivery, the Sequencer and the Frame Clock, in this order. -/
def tick (s : State) : Host.Outcome State Fault Refusal :=
  if s.inited then andThen (sequencer s.latchPins.deliver) State.frameClock else .next s

/-- One tick with the `HOST_INIT` port (R135, R137): the strobe's tick is INIT instead of `Step`; a second INIT raises
`PE_REINIT` and that tick runs `Step` as usual. -/
def tickWithHost (s : State) : Host.Outcome State Fault Refusal :=
  if s.strobe then
    if s.inited then tick (s.popStrobe.raise .peReinit) else .next s.popStrobe.init
  else tick s.popStrobe

end Sys2Proof.Machine
end

