-- ==== Sys2Proof/Machine/Step.lean ====
section
/-! DEFINITION. One step is one tick (00_scope.md R16) of a machine with a well-formed configuration (00_scope.md R11). -/

namespace Sys2Proof.Machine

/-- One tick: `S_τ` to `S_{τ+1}` (R16, R106, R135). An ill-formed configuration has no run (R11, R147). -/
def step (s : State) : Host.Outcome State Fault Refusal :=
  if s.cfg.wellFormed then andThen (tickWithHost s) State.endTick else .refused .peBadConfig

/-- The index the next step fetches from once the Sequencer is made to issue: where it stands in its line program, or the event
vector where it is idle (R20, R120). -/
def State.fetchIndex (s : State) : RomIndex := if s.seqPc = idlePc then entryPc else s.seqPc

/-- The target that stands beside a word in the ROM: the least tick offset with a WAIT's low byte, and nothing beside any other
word (R73). DESIGN CHOICE, unsafe (log 14). -/
def targetOfWord (w : Word) : Option Nat :=
  match decode w with
  | .op (.wait t8) => some t8.toNat
  | .op (.setc _) => none
  | .op .tgls => none
  | .op .adv => none
  | .op .ret => none
  | .op .disp => none
  | .illegal _ => none

/-- `s` with the word in the ROM entry that the very next step issues from (log 14): the block initialised, no strobe at this
tick, the Sequencer inside a line program with no micro-op running. -/
def State.withFetchWord (s : State) (_nbits w : Nat) : State :=
  { s with
    inited := true
    hostInit := false :: s.hostInit.tail
    seqPc := s.fetchIndex
    opcnt := 0
    rom := s.rom.set s.fetchIndex.toNat (BitVec.ofNat 16 w)
    targetAbs := s.targetAbs.set s.fetchIndex.toNat (targetOfWord (BitVec.ofNat 16 w)) }

end Sys2Proof.Machine
end

