-- ==== Sys2Proof/Safety.lean ====
section
/-! DEFINITION. What the claims are stated in: the state elements by their reference numbers (10_state.md R43), what a tick
issues, the legal states (10_state.md R24), the line schedule (70_reset_and_hazards.md R145) and the expected waveform
(43_signal_driver.md R101, R102, R109). -/

namespace Sys2Proof

/-! ## Configurations and their line budget -/

/-- The line-budget constraints T1 to T5 of R145. -/
def Config.lineBudget (c : Config) : Prop :=
  c.entry.hi + c.disp.hi ≤ c.activeStart ∧
    c.waitB.ticks + c.durSetc.ticks ≤ c.bandW ∧
    c.waitB.ticks + c.durSetc.ticks + c.adv.hi + c.durRet.ticks ≤ c.hFullLineNbTicks - c.activeEnd ∧
    c.waitB.ticks + c.durTgls.ticks + c.adv.hi + c.durRet.ticks ≤ c.hFullLineNbTicks - c.activeStart ∧
    c.entry.hi + c.disp.hi + c.adv.hi + c.durRet.ticks ≤ c.hFullLineNbTicks

/-- The seven conditions of R11, in its order. -/
def Config.conditionsOfR11 (c : Config) : Prop :=
  (1 ≤ c.vSyncLines ∧ 1 ≤ c.vBpLines ∧ 1 ≤ c.vActiveLines ∧ 1 ≤ c.vFpLines) ∧
    (1 ≤ c.hSyncTicks ∧ 1 ≤ c.hBpTicks ∧ 1 ≤ c.hActiveTicks ∧ 1 ≤ c.hFpTicks ∧
      c.hFullLineNbTicks = c.hSyncTicks + c.hBpTicks + c.hActiveTicks + c.hFpTicks) ∧
    1 ≤ c.bandW ∧
    c.activeEnd < c.hFullLineNbTicks ∧
    ((∀ k, k < 7 → c.bandStart (k + 1) ≤ c.bandStart k + 255) ∧ c.activeEnd ≤ c.bandStart 7 + 255 ∧
      c.bandStart 7 ≤ c.activeEnd + 255) ∧
    (∀ p : Phase, c.count p < 65536) ∧
    c.hFullLineNbTicks < 65536

/-- A configuration with the spec's tick and line tables (R6 to R8); the parameters of R12 and the band colours are free. -/
def Config.defaultTables (c : Config) : Prop :=
  c.hSyncTicks = 61 ∧ c.hBpTicks = 30 ∧ c.hActiveTicks = 406 ∧ c.hFpTicks = 10 ∧ c.hFullLineNbTicks = 507 ∧
    c.vSyncLines = 2 ∧ c.vBpLines = 31 ∧ c.vActiveLines = 480 ∧ c.vFpLines = 11 ∧ c.nBands = 8

/-- The tick offset `x` at which the micro-op at ROM index `i` issues, on a line with no fault (for index 31: at which RET's
duration has elapsed). After a WAIT it is exact: the target plus `WAIT_B` (R80); before the first WAIT, after ADV and after RET
it is a bound (R145). -/
def Config.due (c : Config) (i : RomIndex) (x : Nat) : Prop :=
  match i.toNat with
  | 1 => x ≤ c.entry.hi + c.disp.hi
  | 2 => x = c.bandStart 0 + c.waitB.ticks
  | 3 => x = c.bandStart 0 + c.waitB.ticks + c.durSetc.ticks
  | 4 => x = c.bandStart 1 + c.waitB.ticks
  | 5 => x = c.bandStart 1 + c.waitB.ticks + c.durSetc.ticks
  | 6 => x = c.bandStart 2 + c.waitB.ticks
  | 7 => x = c.bandStart 2 + c.waitB.ticks + c.durSetc.ticks
  | 8 => x = c.bandStart 3 + c.waitB.ticks
  | 9 => x = c.bandStart 3 + c.waitB.ticks + c.durSetc.ticks
  | 10 => x = c.bandStart 4 + c.waitB.ticks
  | 11 => x = c.bandStart 4 + c.waitB.ticks + c.durSetc.ticks
  | 12 => x = c.bandStart 5 + c.waitB.ticks
  | 13 => x = c.bandStart 5 + c.waitB.ticks + c.durSetc.ticks
  | 14 => x = c.bandStart 6 + c.waitB.ticks
  | 15 => x = c.bandStart 6 + c.waitB.ticks + c.durSetc.ticks
  | 16 => x = c.bandStart 7 + c.waitB.ticks
  | 17 => x = c.bandStart 7 + c.waitB.ticks + c.durSetc.ticks
  | 18 => x = c.activeEnd + c.waitB.ticks
  | 19 => x = c.activeEnd + c.waitB.ticks + c.durSetc.ticks
  | 20 => x ≤ c.activeEnd + c.waitB.ticks + c.durSetc.ticks + c.adv.hi
  | 21 => x ≤ c.entry.hi + c.disp.hi
  | 22 => x = c.activeStart + c.waitB.ticks
  | 23 => x = c.activeStart + c.waitB.ticks + c.durTgls.ticks
  | 24 => x ≤ c.activeStart + c.waitB.ticks + c.durTgls.ticks + c.adv.hi
  | 25 => x ≤ c.entry.hi + c.disp.hi
  | 26 => x ≤ c.entry.hi + c.disp.hi + c.adv.hi
  | 31 => x ≤ c.hFullLineNbTicks
  | _ => False

/-! ## The expected waveform

`n` counts ticks from `τ_init + 1`, the first tick after INIT. Line 0 has no handler (R114); line `k` for `k ≥ 1` serves event
`k`. -/

/-- The line a tick lies in. -/
def Config.lineOf (c : Config) (n : Nat) : Nat := n / c.hFullLineNbTicks

/-- The tick offset within the line (R17). -/
def Config.offsetOf (c : Config) (n : Nat) : Nat := n % c.hFullLineNbTicks

/-- The place of event `k`'s line in the field, which starts with the first FrontPorch line (R139). -/
def Config.placeOf (c : Config) (k : Nat) : Nat := (k - 1) % c.vFullLines

/-- The phase of the line at a place: FrontPorch, SyncPulse, BackPorch, ActiveVideo, each with its count of lines (R22, R109). -/
def Config.phaseAt (c : Config) (m : Nat) : Phase :=
  if m < c.vFpLines then .frontPorch
  else if m < c.vFpLines + c.vSyncLines then .syncPulse
  else if m < c.vFpLines + c.vSyncLines + c.vBpLines then .backPorch
  else .activeVideo

/-- The `COLOR` that an ActiveVideo line's last write before tick offset `o` left: the band of the greatest start whose write is
over, blank before the first and after the last (R101). -/
def Config.activeColour (c : Config) (o : Nat) : Colour :=
  if o ≤ c.bandStart 0 + c.waitB.ticks then 0
  else if o ≤ c.bandStart 1 + c.waitB.ticks then c.bandColors[0]
  else if o ≤ c.bandStart 2 + c.waitB.ticks then c.bandColors[1]
  else if o ≤ c.bandStart 3 + c.waitB.ticks then c.bandColors[2]
  else if o ≤ c.bandStart 4 + c.waitB.ticks then c.bandColors[3]
  else if o ≤ c.bandStart 5 + c.waitB.ticks then c.bandColors[4]
  else if o ≤ c.bandStart 6 + c.waitB.ticks then c.bandColors[5]
  else if o ≤ c.bandStart 7 + c.waitB.ticks then c.bandColors[6]
  else if o ≤ c.activeEnd + c.waitB.ticks then c.bandColors[7]
  else 0

/-- `COLOR` at tick `τ_init + 1 + n` (R101, R104). -/
def Config.waveColour (c : Config) (n : Nat) : Colour :=
  if 1 ≤ c.lineOf n ∧ c.phaseAt (c.placeOf (c.lineOf n)) = .activeVideo then c.activeColour (c.offsetOf n) else 0

/-- `SYNC_C` at tick `τ_init + 1 + n`: away from its idle level from the toggle on the last FrontPorch line until the toggle on
the last SyncPulse line (R102, R109). -/
def Config.waveSync (c : Config) (n : Nat) : Bool :=
  let k := c.lineOf n
  let m := c.placeOf k
  let toggled := decide (c.activeStart + c.waitB.ticks < c.offsetOf n)
  if 1 ≤ k ∧ ((m = c.vFpLines - 1 ∧ toggled = true) ∨ (c.vFpLines ≤ m ∧ m < c.vFpLines + c.vSyncLines - 1) ∨
      (m = c.vFpLines + c.vSyncLines - 1 ∧ toggled = false)) then !c.syncIdleLevel
  else c.syncIdleLevel

end Sys2Proof

namespace Sys2Proof.Machine

/-! ## State elements -/

/-- The state elements that R43 numbers. -/
inductive Element where
  | phase | linesRem | color | syncC | tcnt | period | tctrl | istat | seqPc | opcnt | entrycnt | faults | inited
deriving DecidableEq, Repr

/-- The reference number of an element (R43). -/
def Element.number : Element → Nat
  | .phase => 0
  | .linesRem => 1
  | .color => 2
  | .syncC => 3
  | .tcnt => 4
  | .period => 5
  | .tctrl => 6
  | .istat => 7
  | .seqPc => 8
  | .opcnt => 9
  | .entrycnt => 10
  | .faults => 11
  | .inited => 12

/-- The value of an element, as the natural number that R13 makes of it. -/
def State.read (s : State) : Element → Nat
  | .phase => s.phase.code.toNat
  | .linesRem => s.linesRem.toNat
  | .color => s.color.toNat
  | .syncC => s.syncC.toNat
  | .tcnt => s.tcnt.toNat
  | .period => s.period.toNat
  | .tctrl => s.tctrl.toNat
  | .istat => s.istat.toNat
  | .seqPc => s.seqPc.toNat
  | .opcnt => s.opcnt
  | .entrycnt => s.entrycnt.toNat
  | .faults => s.faults.toNat
  | .inited => s.inited.toNat

/-- The elements a micro-op may write: the "written by" column of R21 and the pseudocode of R75, R84, R92, R93, R96, R105. -/
def elementsWritten : Instr → List Element
  | .wait _ => [.seqPc, .opcnt, .faults]
  | .setc _ => [.seqPc, .opcnt, .color]
  | .tgls => [.seqPc, .opcnt, .syncC]
  | .adv => [.seqPc, .opcnt, .phase, .linesRem, .faults]
  | .ret => [.seqPc, .opcnt]
  | .disp => [.seqPc, .opcnt]

/-! ## What a tick does -/

/-- The state in which the Sequencer of a tick acts (R106 phase 2): the strobe taken off its port, a second INIT's fault raised,
the pins latched, the event delivered. -/
def State.atSequencer (s : State) : State :=
  (if s.strobe then s.popStrobe.raise .peReinit else s.popStrobe).latchPins.deliver

/-- What a tick adds after the Sequencer: the Frame Clock (R106 phase 3), and the end of the tick. -/
def State.afterSequencer (w : State) : State := w.frameClock.endTick

/-- This tick enters an event: after its delivery the four conditions of R120 hold. -/
def State.enters (w : State) : Bool := !w.busy && w.pending && w.gie && decide (w.entrycnt = 0)

/-- The state whose `SEQ_PC` a tick issues from, if it issues: at event entry, or inside a line program when no micro-op runs. -/
def State.issuing (s : State) : Option State :=
  let w := s.atSequencer
  if s.inited then
    if w.enters then some w.enterEvent
    else if w.busy && decide (w.opcnt = 0) then some w
    else none
  else none

/-- The micro-op a tick issues, if it issues one (R107). -/
def State.issued (s : State) : Option Instr :=
  match s.issuing with
  | some w =>
    match decode (w.romWord w.seqPc) with
    | .op i => some i
    | .illegal _ => none
  | none => none

/-- `n` ADV operations in a row (R87, R88). -/
def advances : Nat → State → Host.Outcome State Fault Refusal
  | 0, s => .next s
  | n + 1, s =>
    match exec .adv s with
    | .next t => advances n t
    | .fault r => .fault r
    | .refused r => .refused r

/-- `n` ticks in a row, stopping at a refusal. -/
def ticks : Nat → State → Host.Outcome State Fault Refusal
  | 0, s => .next s
  | n + 1, s =>
    match step s with
    | .next t => ticks n t
    | .fault r => .fault r
    | .refused r => .refused r

/-! ## Legal states -/

/-- `1 <= LINES_REM <= COUNT(PHASE)` (R24). -/
def State.linesLegal (s : State) : Prop := 1 ≤ s.linesRem.toNat ∧ s.linesRem.toNat ≤ s.cfg.count s.phase

/-- Before INIT the controls are off and the Sequencer is idle (R138). -/
def State.quiet (s : State) : Prop :=
  s.armed = false ∧ s.evtIE = false ∧ s.gie = false ∧ s.pending = false ∧ s.evtFlag = false ∧ s.seqPc = idlePc ∧
    s.opcnt = 0 ∧ s.entrycnt = 0

/-- From INIT on: the timer and its interrupt are armed and enabled (R116), the counter runs in `0..PERIOD-1` (R27), the period is
the configured one (R28), the line counter is legal (R24), and `EVT_FLAG` marks a counter at 0 only (R112). -/
def State.live (s : State) : Prop :=
  s.armed = true ∧ s.evtIE = true ∧ s.gie = true ∧ s.period.toNat = s.cfg.hFullLineNbTicks ∧
    s.tcnt.toNat < s.cfg.hFullLineNbTicks ∧ s.linesLegal ∧ (s.evtFlag = true → s.tcnt = 0)

/-- A legal state: quiet before INIT, live from INIT on, and none of `FAULTS[0]`, `FAULTS[4]` and `FAULTS[7]` set (R110: bit 0 is
never set, code 4 has no run, code 7 cannot be reached). -/
def State.Legal (s : State) : Prop :=
  s.cfg.wellFormed = true ∧ (s.inited = false → s.quiet) ∧ (s.inited = true → s.live) ∧
    s.faults.getLsbD 0 = false ∧ s.raised .peBadConfig = false ∧ s.raised .invariant = false

/-! ## Line programs -/

/-- The Sequencer stands at `IDLE_PC` or at an index of a line program (R66, R68, R69). -/
def State.seqPcLegal (s : State) : Prop := s.seqPc = idlePc ∨ (1 ≤ s.seqPc.toNat ∧ s.seqPc.toNat ≤ 26)

/-- A block with a well-formed configuration and that configuration's ROM (R71), its Sequencer idle before INIT (R138) and where a
line program can bring it from INIT on. Nothing is asked of the timing parameters, of `FAULTS` or of the strobe. -/
def State.OnProgram (s : State) : Prop :=
  s.cfg.wellFormed = true ∧ s.rom = s.cfg.rom ∧ s.seqPcLegal ∧ (s.inited = false → s.busy = false)

/-! ## The line schedule -/

/-- The Sequencer is on schedule: idle with no event pending; or idle with an event whose entry is not late; or running, off the
event's tick, with its next micro-op due in time. -/
def State.sequencerOnSchedule (s : State) : Prop :=
  (s.seqPc = idlePc ∧ s.opcnt = 0 ∧ s.pending = false) ∨
    (s.seqPc = idlePc ∧ s.opcnt = 0 ∧ s.pending = true ∧ s.evtFlag = false ∧
      s.tcnt.toNat + s.entrycnt.toNat ≤ s.cfg.entry.hi) ∨
    ((s.seqPc ≠ idlePc ∨ s.opcnt ≠ 0) ∧ s.pending = false ∧ s.evtFlag = false ∧
      s.cfg.due s.seqPc (s.tcnt.toNat + s.opcnt))

/-- The whole block is on schedule: a live machine with the ROM of its configuration, no fault raised, no strobe to come, timing
parameters within the line budget (R145) and a first target within the byte window of the line start (R77, R145: "the first
target is 91"), and the Sequencer on schedule. -/
def State.OnSchedule (s : State) : Prop :=
  s.cfg.wellFormed = true ∧ s.cfg.lineBudget ∧ s.cfg.activeStart ≤ 255 ∧ s.rom = s.cfg.rom ∧
    s.targetAbs = s.cfg.targetAbs ∧ s.inited = true ∧ s.live ∧ s.faults = 0 ∧ s.hostInit = [] ∧ s.sequencerOnSchedule

/-- The block as it stands at power-on, at any tick and with any values in the unspecified elements (R21, R138), a fault-free
ghost record, the ROM of its configuration, and a Host that strobes INIT at this tick and never again (R141). -/
def State.PoweredOn (s : State) : Prop :=
  s.cfg.wellFormed = true ∧ s.rom = s.cfg.rom ∧ s.targetAbs = s.cfg.targetAbs ∧ s.inited = false ∧ s.quiet ∧
    s.faults = 0 ∧ s.hostInit = [true]

end Sys2Proof.Machine
end

