-- ==== Sys2Proof/Certificates/Slice0/Obligations.lean ====
section
/-! DEFINITION. The statements about the machine. -/

open Sys2Proof Sys2Proof.Machine

/-! ## Encoding and ROM -/

/-- The decoder's vectors D-1 to D-21 (95_test_vectors.md), words written out from R61. -/
def Obligations.DecodeOfWrittenWords : Prop :=
  decode 0b0001000001011011 = .op (.wait 91) ∧ decode 0b0001000000000000 = .op (.wait 0) ∧
  decode 0b0001000011111111 = .op (.wait 255) ∧ decode 0b0010000000000000 = .op (.setc 0) ∧
  decode 0b0010000000000111 = .op (.setc 7) ∧ decode 0b0011000000000000 = .op .tgls ∧
  decode 0b0100000000000000 = .op .adv ∧ decode 0b0101000000000000 = .op .ret ∧
  decode 0b0110000000000000 = .op .disp ∧
  ∀ w ∈ [0x1100#16, 0x2008#16, 0x2800#16, 0x3001#16, 0x4800#16, 0x5010#16, 0x6001#16, 0x0000#16, 0x0FFF#16, 0x7000#16,
    0xF000#16, 0xFFFF#16], ∃ e, decode w = .illegal e

/-- No bit of an encoding is dropped, and every legal word has exactly one spelling. -/
def Obligations.DecodeEncodeRoundTrip : Prop :=
  (∀ i : Instr, i.wellFormed = true → decode (encode i) = .op i) ∧
  (∀ (w : Word) (i : Instr), decode w = .op i → encode i = w)

/-- The opcode map of R61, with the operands of R60: a word decodes to the row it matches, to no micro-op where it matches none,
and matches at most one. -/
def Obligations.DecodeFollowsOpcodeMap : Prop :=
  opcodeRows = [⟨0x1, .T8, 0x1000, 0xFF00⟩, ⟨0x2, .C3, 0x2000, 0xFFF8⟩, ⟨0x3, .Z, 0x3000, 0xFFFF⟩,
    ⟨0x4, .Z, 0x4000, 0xFFFF⟩, ⟨0x5, .Z, 0x5000, 0xFFFF⟩, ⟨0x6, .Z, 0x6000, 0xFFFF⟩] ∧
  (∀ (w : Word) (r : OpRow), r ∈ opcodeRows → r.matches w = true → ∃ i, decode w = .op i ∧ i.row = r) ∧
  (∀ w : Word, (∀ r ∈ opcodeRows, r.matches w = false) → ∃ e, decode w = .illegal e) ∧
  (∀ (w : Word) (r r' : OpRow), r ∈ opcodeRows → r' ∈ opcodeRows → r.matches w = true → r'.matches w = true → r = r') ∧
  (∀ (w : Word) (t8 : BitVec 8), decode w = .op (.wait t8) → t8.toNat = w.toNat % 256) ∧
  (∀ (w : Word) (c3 : Colour), decode w = .op (.setc c3) → c3.toNat = w.toNat % 8)

/-- The decoder's function (R64), case by case on the opcode field `w[15:12]`, with the reserved and the must-be-zero words
(R62, R63) `Illegal`. -/
def Obligations.DecoderIsTotalByOpcode : Prop :=
  ∀ w : Word,
  (w.toNat / 4096 = 1 → (w.toNat / 256 % 16 = 0 → decode w = .op (.wait (BitVec.ofNat 8 w.toNat))) ∧
    (w.toNat / 256 % 16 ≠ 0 → ∃ e, decode w = .illegal e)) ∧
  (w.toNat / 4096 = 2 → (w.toNat / 8 % 512 = 0 → decode w = .op (.setc (BitVec.ofNat 3 w.toNat))) ∧
    (w.toNat / 8 % 512 ≠ 0 → ∃ e, decode w = .illegal e)) ∧
  (w.toNat / 4096 = 3 → (w.toNat % 4096 = 0 → decode w = .op .tgls) ∧ (w.toNat % 4096 ≠ 0 → ∃ e, decode w = .illegal e)) ∧
  (w.toNat / 4096 = 4 → (w.toNat % 4096 = 0 → decode w = .op .adv) ∧ (w.toNat % 4096 ≠ 0 → ∃ e, decode w = .illegal e)) ∧
  (w.toNat / 4096 = 5 → (w.toNat % 4096 = 0 → decode w = .op .ret) ∧ (w.toNat % 4096 ≠ 0 → ∃ e, decode w = .illegal e)) ∧
  (w.toNat / 4096 = 6 → (w.toNat % 4096 = 0 → decode w = .op .disp) ∧ (w.toNat % 4096 ≠ 0 → ∃ e, decode w = .illegal e)) ∧
  ((w.toNat / 4096 = 0 ∨ 7 ≤ w.toNat / 4096) → ∃ e, decode w = .illegal e)

/-- The assembler (R74): the word and the recorded target of each line, with the eight colour names at their codes of R25 (whose
mixtures the spec takes from general knowledge, log 17), and its refusals. -/
def Obligations.AssemblerWordsAndRefusals : Prop :=
  ∀ period : Nat,
  (∀ abs, abs < period → assemble period (.wait abs) = some ⟨0x1000 ||| BitVec.ofNat 16 (abs % 256), some abs⟩) ∧
  (∀ abs, period ≤ abs → assemble period (.wait abs) = none) ∧
  (∀ c, c < 8 → assemble period (.setcCode c) = some ⟨0x2000 ||| BitVec.ofNat 16 c, none⟩) ∧
  (∀ c, 8 ≤ c → assemble period (.setcCode c) = none) ∧
  assemble period (.setcName .black) = some ⟨0x2000, none⟩ ∧ assemble period (.setcName .red) = some ⟨0x2001, none⟩ ∧
  assemble period (.setcName .green) = some ⟨0x2002, none⟩ ∧ assemble period (.setcName .yellow) = some ⟨0x2003, none⟩ ∧
  assemble period (.setcName .blue) = some ⟨0x2004, none⟩ ∧ assemble period (.setcName .magenta) = some ⟨0x2005, none⟩ ∧
  assemble period (.setcName .cyan) = some ⟨0x2006, none⟩ ∧ assemble period (.setcName .white) = some ⟨0x2007, none⟩ ∧
  (∀ n : ColourName, assemble period (.setcName n) = assemble period (.setcCode n.code.toNat)) ∧
  assemble period .tgls = some ⟨0x3000, none⟩ ∧ assemble period .adv = some ⟨0x4000, none⟩ ∧
  assemble period .ret = some ⟨0x5000, none⟩ ∧ assemble period .disp = some ⟨0x6000, none⟩ ∧
  assemble period .blank = some ⟨0x2000, none⟩

/-- The ROM table of R71: words, micro-ops and targets, for every configuration with the default tables and band colours. -/
def Obligations.DefaultRomIsTheTable : Prop :=
  ∀ c : Config, c.defaultTables → c.bandColors = #v[0, 1, 2, 4, 6, 3, 5, 7] →
  c.rom.toList = [0x6000, 0x105B, 0x2000, 0x108D, 0x2001, 0x10BF, 0x2002, 0x10F1, 0x2004, 0x1023, 0x2006, 0x1055, 0x2003,
    0x1087, 0x2005, 0x10B9, 0x2007, 0x10F1, 0x2000, 0x4000, 0x5000, 0x105B, 0x3000, 0x4000, 0x5000, 0x4000, 0x5000, 0x0000,
    0x0000, 0x0000, 0x0000, 0x0000] ∧
  (c.rom.toList.take 27).map decode = [.op .disp, .op (.wait 91), .op (.setc 0), .op (.wait 141), .op (.setc 1),
    .op (.wait 191), .op (.setc 2), .op (.wait 241), .op (.setc 4), .op (.wait 35), .op (.setc 6), .op (.wait 85),
    .op (.setc 3), .op (.wait 135), .op (.setc 5), .op (.wait 185), .op (.setc 7), .op (.wait 241), .op (.setc 0), .op .adv,
    .op .ret, .op (.wait 91), .op .tgls, .op .adv, .op .ret, .op .adv, .op .ret] ∧
  c.targetAbs.toList = [none, some 91, none, some 141, none, some 191, none, some 241, none, some 291, none, some 341, none,
    some 391, none, some 441, none, some 497, none, none, none, some 91, none, none, none, none, none, none, none, none, none,
    none]

/-- `TARGET_ABS` (R73): a WAIT entry, and no other, has a target; it lies in the line, its low byte is the word's, and within
`P_ACTIVE` (indices 1..20; `P_EDGE` has one WAIT) the targets strictly increase. -/
def Obligations.TargetsMatchTheirWaits : Prop :=
  ∀ c : Config, c.wellFormed = true →
  (∀ (i : Fin 32) (T : Nat), c.targetAbs[i] = some T →
    T < c.hFullLineNbTicks ∧ c.rom[i].toNat % 256 = T % 256 ∧ ∃ t8, decode c.rom[i] = .op (.wait t8)) ∧
  (∀ (i : Fin 32) (t8 : BitVec 8), decode c.rom[i] = .op (.wait t8) → ∃ T, c.targetAbs[i] = some T) ∧
  (∀ (i j : Fin 32) (T U : Nat), i < j → j.val ≤ 20 → c.targetAbs[i] = some T → c.targetAbs[j] = some U → T < U)

/-! ## Status registers and phases -/

/-- The bits of `TCTRL` and `ISTAT` (R29, R30), the hardwired ones included. -/
def Obligations.StatusRegisterBits : Prop :=
  ∀ s : State,
  s.tctrl.getLsbD 0 = s.armed ∧ s.tctrl.getLsbD 1 = true ∧ s.tctrl.getLsbD 2 = s.evtIE ∧ s.tctrl.toNat / 8 = 0 ∧
  s.istat.getLsbD 0 = s.gie ∧ s.istat.getLsbD 1 = s.pending ∧ s.istat.getLsbD 2 = s.evtFlag

/-- The phase transition is addition mod 4 on the code, and is the explicit cyclic switch (R89, with the codes of R22). -/
def Obligations.PhaseSuccessorIsModFour : Prop :=
  (∀ p : Phase, p.succ4.code = p.code + 1) ∧
  (∀ p : Phase, p.succ4 = match p with
    | .syncPulse => .backPorch | .backPorch => .activeVideo | .activeVideo => .frontPorch | .frontPorch => .syncPulse) ∧
  Phase.syncPulse.code = 0 ∧ Phase.backPorch.code = 1 ∧ Phase.activeVideo.code = 2 ∧ Phase.frontPorch.code = 3 ∧
  (∀ b : BitVec 2, (Phase.ofCode b).code = b)

/-! ## The micro-ops -/

/-- Every micro-op completes, in every state. -/
def Obligations.EveryMicroOpCompletes : Prop :=
  ∀ (i : Instr) (s : State), ∃ t, exec i s = .next t

/-- WAIT (R75), at an entry that has a target: in window it stalls for `delta + WAIT_B`; out of window it raises
`TV_WAIT_MISSED` and stalls for some `d ≥ 1`. -/
def Obligations.WaitStallsOrMisses : Prop :=
  ∀ (t8 : BitVec 8) (s : State) (T : Nat), s.target s.seqPc = some T →
  ((s.tcnt.toNat ≤ T ∧ T - s.tcnt.toNat ≤ 255) →
    exec (.wait t8) s = .next { s with
      opcnt := (t8 - s.tcnt.extractLsb' 0 8).toNat + s.cfg.waitB.ticks - 1
      seqPc := s.seqPc + 1 }) ∧
  (¬(s.tcnt.toNat ≤ T ∧ T - s.tcnt.toNat ≤ 255) →
    ∃ d, 1 ≤ d ∧ exec (.wait t8) s = .next { s.raise .tvWaitMissed with
      opcnt := d - 1
      seqPc := s.seqPc + 1
      draws := s.draws + 1 })

/-- The model's choice (log 7): a WAIT at an entry with an empty `TARGET_ABS` is out of window. -/
def Obligations.WaitWithoutTargetMisses : Prop :=
  ∀ (t8 : BitVec 8) (s : State), s.target s.seqPc = none →
  ∃ d, 1 ≤ d ∧ exec (.wait t8) s = .next { s.raise .tvWaitMissed with
    opcnt := d - 1
    seqPc := s.seqPc + 1
    draws := s.draws + 1 }

/-- The window (R77), and the distance that the 8-bit difference gives inside it. -/
def Obligations.WindowAndRemainingDistance : Prop :=
  ∀ (s : State) (i : RomIndex) (n : BitVec 16) (T : Nat), s.target i = some T →
  (s.inWindow i n = true ↔ n.toNat ≤ T ∧ T - n.toNat ≤ 255) ∧
  ∀ t8 : BitVec 8, s.inWindow i n = true → t8.toNat = T % 256 → waitDelta t8 n = T - n.toNat

/-- The cost of an in-window WAIT (R79): iterations of `WAIT_UNIT` = 4, a padding path, and `WAIT_B`. -/
def Obligations.WaitCostIsAffine : Prop :=
  Config.waitUnit = 4 ∧
  (∀ (c : Config) (delta : Nat), c.waitCost delta = 4 * (delta / 4) + delta % 4 + c.waitB.ticks ∧
    c.waitCost delta = delta + c.waitB.ticks) ∧
  ∀ (t8 : BitVec 8) (s t : State), s.inWindow s.seqPc s.tcnt = true → exec (.wait t8) s = .next t →
    t.opcnt = s.cfg.waitCost (waitDelta t8 s.tcnt) - 1

/-- SETC (R92). -/
def Obligations.SetcWritesColour : Prop :=
  ∀ (c3 : Colour) (s : State),
  exec (.setc c3) s = .next { s with color := c3, seqPc := s.seqPc + 1, opcnt := s.cfg.durSetc.ticks - 1 }

/-- TGLS (R93), and that two TGLS restore the level. -/
def Obligations.TglsInvertsSync : Prop :=
  (∀ s : State, exec .tgls s = .next { s with syncC := !s.syncC, seqPc := s.seqPc + 1, opcnt := s.cfg.durTgls.ticks - 1 }) ∧
  (∀ s t u : State, exec .tgls s = .next t → exec .tgls t = .next u → u.syncC = s.syncC)

/-- ADV (R84): the advance of (`PHASE`, `LINES_REM`), or `INVARIANT` with both left alone (R85); the duration is drawn in
`[ADV_MIN, ADV_MAX]`. -/
def Obligations.AdvAdvancesTheLine : Prop :=
  ∀ s : State, ∃ d, s.cfg.adv.lo ≤ d ∧ d ≤ s.cfg.adv.hi ∧
  ((s.linesRem.toNat = 0 ∨ s.cfg.count s.phase < s.linesRem.toNat) →
    exec .adv s = .next { s.raise .invariant with seqPc := s.seqPc + 1, opcnt := d - 1, draws := s.draws + 1 }) ∧
  (s.linesRem.toNat = 1 → 1 ≤ s.cfg.count s.phase →
    exec .adv s = .next { s with
      phase := s.phase.succ4
      linesRem := BitVec.ofNat 16 (s.cfg.count s.phase.succ4)
      seqPc := s.seqPc + 1
      opcnt := d - 1
      draws := s.draws + 1 }) ∧
  (2 ≤ s.linesRem.toNat → s.linesRem.toNat ≤ s.cfg.count s.phase →
    exec .adv s = .next { s with
      linesRem := BitVec.ofNat 16 (s.linesRem.toNat - 1)
      seqPc := s.seqPc + 1
      opcnt := d - 1
      draws := s.draws + 1 })

/-- DISP (R96) with the selection of R97; the duration is drawn in `[DISP_MIN, DISP_MAX]`. -/
def Obligations.DispSelectsTheProgram : Prop :=
  ∀ s : State, ∃ d, s.cfg.disp.lo ≤ d ∧ d ≤ s.cfg.disp.hi ∧
  exec .disp s = .next { s with
    seqPc :=
      if s.phase = .activeVideo then 1
      else if (s.phase = .syncPulse ∨ s.phase = .frontPorch) ∧ s.linesRem = 1 then 21
      else 25
    opcnt := d - 1
    draws := s.draws + 1 }

/-- `P_EDGE` runs on boundary lines and on no others (R99): the last line of SyncPulse or FrontPorch. -/
def Obligations.EdgeProgramOnBoundaryLines : Prop :=
  ∀ s : State,
  (s.boundaryLine = true ↔ (s.phase = .syncPulse ∨ s.phase = .frontPorch) ∧ s.linesRem.toNat = 1) ∧
  ∀ t : State, exec .disp s = .next t → (t.seqPc = baseEdge ↔ s.boundaryLine = true)

/-- RET (R105). -/
def Obligations.RetLeavesTheProgram : Prop :=
  ∀ s : State, exec .ret s = .next { s with seqPc := 31, opcnt := s.cfg.durRet.ticks - 1 }

/-- THE FRAME of every micro-op: no element but those R21 and its pseudocode name for it is changed, nor the configuration, the
ROM, the pins' lines or a ghost; and the record of the first raise stands unless the micro-op may raise. -/
def Obligations.MicroOpFrame : Prop :=
  ∀ (i : Instr) (s t : State), exec i s = .next t →
  (∀ e : Element, e ∉ (match i with
    | .wait _ => [.seqPc, .opcnt, .faults]
    | .setc _ => [.seqPc, .opcnt, .color]
    | .tgls => [.seqPc, .opcnt, .syncC]
    | .adv => [.seqPc, .opcnt, .phase, .linesRem, .faults]
    | .ret => [.seqPc, .opcnt]
    | .disp => [.seqPc, .opcnt] : List Element) → t.read e = s.read e) ∧
  t.cfg = s.cfg ∧ t.rom = s.rom ∧ t.targetAbs = s.targetAbs ∧ t.colorLine = s.colorLine ∧ t.syncLine = s.syncLine ∧
  t.tau = s.tau ∧ t.tauInit = s.tauInit ∧ t.hostInit = s.hostInit ∧
  (Element.faults ∉ elementsWritten i → t.firstRaise = s.firstRaise)

/-! ## The phase machine -/

/-- Line-count exhaustion (R88). -/
def Obligations.LineCountExhaustion : Prop :=
  ∀ s : State, s.cfg.wellFormed = true → s.linesRem.toNat = s.cfg.count s.phase →
  (∀ j, j < s.cfg.count s.phase →
    ∃ t, advances j s = .next t ∧ t.phase = s.phase ∧ t.linesRem.toNat = s.cfg.count s.phase - j) ∧
  ∃ t, advances (s.cfg.count s.phase) s = .next t ∧ t.phase = s.phase.succ4 ∧
    t.linesRem.toNat = s.cfg.count s.phase.succ4

/-- The phase cycle (R87): no ADV skips a phase, and from the top of SyncPulse the first entry into SyncPulse is exactly the
`V_FULL_LINES`-th ADV, 524 with the default tables. -/
def Obligations.PhaseCycleOfAField : Prop :=
  (∀ (s : State) (n : Nat), s.cfg.wellFormed = true → s.linesLegal →
    ∃ t u, advances n s = .next t ∧ exec .adv t = .next u ∧ (u.phase = t.phase ∨ u.phase = t.phase.succ4)) ∧
  (∀ s : State, s.cfg.wellFormed = true → s.phase = .syncPulse → s.linesRem.toNat = s.cfg.vSyncLines →
    (∃ t, advances s.cfg.vFullLines s = .next t ∧ t.phase = .syncPulse ∧ t.linesRem.toNat = s.cfg.vSyncLines) ∧
    ∀ j, 0 < j → j < s.cfg.vFullLines →
      ∃ t, advances j s = .next t ∧ ¬(t.phase = .syncPulse ∧ t.linesRem.toNat = s.cfg.vSyncLines)) ∧
  (∀ c : Config, c.defaultTables → c.vFullLines = 524)

/-! ## The tick step -/

/-- A step runs the decoded micro-op: where a tick issues (from the state `w`: strobe taken, pins latched, event delivered, and
at event entry the vector set) and the word at `SEQ_PC` decodes, the step is that micro-op's `exec` at `w`, then the Frame Clock
and the end of the tick. -/
def Obligations.StepRunsDecodedMicroOp : Prop :=
  ∀ (s w : State) (i : Instr), s.cfg.wellFormed = true → s.issuing = some w → decode (w.romWord w.seqPc) = .op i →
  step s = andThen (exec i w) (fun u => u.frameClock.endTick)

/-- An `Illegal` word (R65) raises `ILLEGAL_OP` and abandons the line program, and changes nothing else. With the ROM of a
well-formed configuration it is unreachable, whatever the timing parameters, the faults raised and the strobes: no tick issues
one, and in no run is `ILLEGAL_OP` raised. -/
def Obligations.IllegalWordAbandonsTheProgram : Prop :=
  (∀ (s w : State) (e : Illegal), s.cfg.wellFormed = true → s.issuing = some w → decode (w.romWord w.seqPc) = .illegal e →
    step s = .next ({ w.raise .illegalOp with seqPc := 31, opcnt := 0 }.frameClock.endTick)) ∧
  (∀ s w : State, s.OnProgram → s.issuing = some w → ∃ i, decode (w.romWord w.seqPc) = .op i) ∧
  (∀ (n : Nat) (s : State), s.OnProgram → s.raised .illegalOp = false →
    ∃ t, ticks n s = .next t ∧ t.raised .illegalOp = false)

/-- A tick that issues nothing (R106 phase 2): nothing before INIT; else the running micro-op's countdown, or the entry countdown
of a pending event, or nothing of the Sequencer's. -/
def Obligations.StepWithoutIssue : Prop :=
  ∀ s : State, s.cfg.wellFormed = true → s.inited = true → s.issuing = none →
  (s.atSequencer.busy = true → 0 < s.atSequencer.opcnt ∧
    step s = .next ({ s.atSequencer with opcnt := s.atSequencer.opcnt - 1 }.frameClock.endTick)) ∧
  (s.atSequencer.busy = false → s.atSequencer.pending = true → s.atSequencer.gie = true →
    s.atSequencer.entrycnt ≠ 0 ∧
    step s = .next ({ s.atSequencer with entrycnt := s.atSequencer.entrycnt - 1 }.frameClock.endTick)) ∧
  (s.atSequencer.busy = false → (s.atSequencer.pending = false ∨ s.atSequencer.gie = false) →
    step s = .next (s.atSequencer.frameClock.endTick))

/-- The Frame Clock (R112), seen across a whole step: whatever the Sequencer does, `TCNT` counts mod `PERIOD` while armed and
`EVT_FLAG` marks the new 0; while not armed, both stand, but for INIT. -/
def Obligations.FrameClockCounts : Prop :=
  ∀ s t : State, step s = .next t →
  (s.inited = true → s.armed = true → s.period ≠ 0 →
    t.tcnt.toNat = (s.tcnt.toNat + 1) % s.period.toNat ∧ t.evtFlag = decide (t.tcnt = 0)) ∧
  (s.armed = false → ¬(s.inited = false ∧ s.strobe = true) → t.tcnt = s.tcnt ∧ t.evtFlag = s.evtFlag)

/-- Delivery of the event (R117), with its faults (R118, R119) and its fate in the same tick, seen across a whole step: `e` is
the drawn latency. -/
def Obligations.EventDelivery : Prop :=
  ∀ s t : State, step s = .next t → s.inited = true → s.evtFlag = true → s.evtIE = true →
  (s.busy = true → t.raised .tvOverrun = true) ∧
  (s.pending = true → t.raised .tvLostEvent = true) ∧
  ∃ e, s.cfg.entry.lo ≤ e ∧ e ≤ s.cfg.entry.hi ∧
    (s.busy = true → t.pending = true ∧ t.entrycnt.toNat = e) ∧
    (s.busy = false → s.gie = false → t.pending = true ∧ t.entrycnt.toNat = e) ∧
    (s.busy = false → s.gie = true → 0 < e → t.pending = true ∧ t.entrycnt.toNat = e - 1 ∧ s.issuing = none) ∧
    (s.busy = false → s.gie = true → e = 0 → ∃ w, s.issuing = some w ∧ w.seqPc = 0 ∧ w.pending = false)

/-- Only an event's delivery raises `TV_OVERRUN` or `TV_LOST_EVENT` (R118, R119): a tick that sets one of them found the event
flag set and enabled, and the Sequencer busy, or an event pending. -/
def Obligations.DeliveryFaultsNeedTheirCause : Prop :=
  ∀ s t : State, step s = .next t →
  (t.raised .tvOverrun = true → s.raised .tvOverrun = false →
    s.inited = true ∧ s.evtFlag = true ∧ s.evtIE = true ∧ s.busy = true) ∧
  (t.raised .tvLostEvent = true → s.raised .tvLostEvent = false →
    s.inited = true ∧ s.evtFlag = true ∧ s.evtIE = true ∧ s.pending = true)

/-- Event entry (R120): where its four conditions hold after delivery, the tick clears the latch, stands at ROM index 0 and
issues there, saving nothing; where one of them fails and the Sequencer is idle, the tick issues nothing. -/
def Obligations.EventEntry : Prop :=
  ∀ s : State, s.inited = true →
  ((s.atSequencer.busy = false ∧ s.atSequencer.pending = true ∧ s.atSequencer.gie = true ∧ s.atSequencer.entrycnt = 0) →
    s.issuing = some { s.atSequencer with pending := false, seqPc := 0, opcnt := 0 }) ∧
  ((s.atSequencer.busy = false ∧
      (s.atSequencer.pending = false ∨ s.atSequencer.gie = false ∨ s.atSequencer.entrycnt ≠ 0)) → s.issuing = none)

/-- The entry latency (R120, last sentence): the event of a line start that finds the Sequencer idle and nothing pending enters
`e` ticks later, for the latency `e` drawn at its delivery, and no micro-op issues before. -/
def Obligations.EntryAfterDrawnLatency : Prop :=
  ∀ s : State, s.cfg.wellFormed = true → s.inited = true → s.armed = true → s.evtIE = true → s.gie = true →
  s.seqPc = 31 → s.opcnt = 0 → s.pending = false → s.evtFlag = true → s.tcnt = 0 → s.cfg.entry.hi < s.period.toNat →
  ∃ e, s.cfg.entry.lo ≤ e ∧ e ≤ s.cfg.entry.hi ∧
    (∃ u w, ticks e s = .next u ∧ u.issuing = some w ∧ w.seqPc = 0 ∧ w.tcnt.toNat = e) ∧
    ∀ k, k < e → ∃ v, ticks k s = .next v ∧ v.issuing = none

/-- The exit of an in-window WAIT (R80): issued at any counter value `n` in the window of its target `T`, its stall ends, and the
next micro-op is due, exactly `T - n + WAIT_B` ticks later, at the counter value `T + WAIT_B`; until then none issues. -/
def Obligations.WaitExitIsDeterministic : Prop :=
  ∀ (s : State) (t8 : BitVec 8) (T : Nat),
  s.cfg.wellFormed = true → s.inited = true → s.armed = true → s.period ≠ 0 → s.seqPc ≠ 31 → s.opcnt = 0 →
  decode (s.romWord s.seqPc) = .op (.wait t8) → s.target s.seqPc = some T → t8.toNat = T % 256 →
  s.tcnt.toNat ≤ T → T - s.tcnt.toNat ≤ 255 →
  (∃ u, ticks (T - s.tcnt.toNat + s.cfg.waitB.ticks) s = .next u ∧ u.opcnt = 0 ∧ u.seqPc = s.seqPc + 1 ∧
    u.tcnt.toNat = (T + s.cfg.waitB.ticks) % s.period.toNat) ∧
  ∀ k, 1 ≤ k → k < T - s.tcnt.toNat + s.cfg.waitB.ticks → ∃ v, ticks k s = .next v ∧ v.issuing = none

/-- No tick halts (R132): every state with a well-formed configuration has a next state, for any number of ticks. -/
def Obligations.ARunHasNoEnd : Prop :=
  ∀ (n : Nat) (s : State), s.cfg.wellFormed = true → ∃ t, ticks n s = .next t

/-- A configuration that fails one of the seven conditions of R11 has no run: its step is refused as `PE_BAD_CONFIG` (R110). -/
def Obligations.IllFormedConfigurationIsRefused : Prop :=
  ∀ s : State, ¬s.cfg.conditionsOfR11 → step s = .refused .peBadConfig

/-- A configuration that meets R11 runs, where it has the 8 bands that the ROM layout asks for (the model's choice, log 2); the
default tables are such a configuration. -/
def Obligations.WellFormedConfigurationRuns : Prop :=
  (∀ s : State, s.cfg.conditionsOfR11 → s.cfg.nBands = 8 → ∃ t, step s = .next t) ∧
  (∀ s : State, s.cfg.conditionsOfR11 → s.cfg.nBands ≠ 8 → step s = .refused .peBadConfig) ∧
  (∀ c : Config, c.defaultTables → c.conditionsOfR11)

/-! ## Ownership -/

/-- Nothing writes the configuration, the ROM or the targets (R36, R46, R56). -/
def Obligations.RomAndTablesAreReadOnly : Prop :=
  ∀ (n : Nat) (s t : State), ticks n s = .next t → t.cfg = s.cfg ∧ t.rom = s.rom ∧ t.targetAbs = s.targetAbs

/-- `FAULTS` is sticky (R111): `raise F` sets the bit of `F` and no other; no step clears a bit, INIT's among them; the step goes
on. The third clause, that every pin is then observed as X, is the model's reading (log 6, DEDUCED): R111 says only that an
observation treats everything after the first fault as unconstrained. -/
def Obligations.FaultsAreSticky : Prop :=
  (∀ (s : State) (f g : FaultCode), (s.raise f).raised g = true ↔ s.raised g = true ∨ g = f) ∧
  (∀ (s t : State) (f : FaultCode), step s = .next t → s.raised f = true → t.raised f = true) ∧
  (∀ s : State, s.faults ≠ 0 → s.observe = ⟨none, none, none⟩) ∧
  (∀ s : State, s.cfg.wellFormed = true → ∃ t, step s = .next t)

/-- From INIT on only SETC writes `COLOR` and only TGLS writes `SYNC_C`; in every line program each of them follows a WAIT; and
on schedule every such write issues at that WAIT's exit, its target plus `WAIT_B` (R91). -/
def Obligations.OutputsWrittenOnlyAfterWaits : Prop :=
  (∀ s t : State, step s = .next t → s.inited = true →
    (t.color ≠ s.color → ∃ c3, s.issued = some (.setc c3) ∧ t.color = c3) ∧
    (t.syncC ≠ s.syncC → s.issued = some .tgls ∧ t.syncC = !s.syncC)) ∧
  (∀ (c : Config) (i : Fin 32), ((∃ c3, decode c.rom[i] = .op (.setc c3)) ∨ decode c.rom[i] = .op .tgls) →
    ∃ (j : Fin 32) (t8 : BitVec 8), j.val + 1 = i.val ∧ decode c.rom[j] = .op (.wait t8)) ∧
  (∀ s w : State, s.OnSchedule → s.issuing = some w →
    ((∃ c3, s.issued = some (.setc c3)) ∨ s.issued = some .tgls) →
    ∃ T, s.target (w.seqPc - 1) = some T ∧ s.tcnt.toNat = T + s.cfg.waitB.ticks)

/-- From INIT on only ADV changes the Phase State Machine (R83). -/
def Obligations.PhaseMachineChangedOnlyByAdv : Prop :=
  ∀ s t : State, step s = .next t → s.inited = true → (t.phase ≠ s.phase ∨ t.linesRem ≠ s.linesRem) → s.issued = some .adv

/-- The word at `IDLE_PC` is never fetched (R70, R106): a step gives the same whatever stands there. -/
def Obligations.IdleIndexIsNeverFetched : Prop :=
  ∀ (s t t' : State) (w : Word), step s = .next t → step { s with rom := s.rom.set 31 w } = .next t' →
  t' = { t with rom := t.rom.set 31 w }

/-! ## Power-on and INIT -/

/-- Power-on and the time before INIT (R138): the controls at reset; a tick without a strobe changes no element; every pin
is X. -/
def Obligations.PowerOnIsInert : Prop :=
  (State.reset.inited = false ∧ State.reset.armed = false ∧ State.reset.gie = false ∧ State.reset.evtIE = false ∧
    State.reset.pending = false ∧ State.reset.evtFlag = false ∧ State.reset.seqPc = 31 ∧ State.reset.opcnt = 0 ∧
    State.reset.entrycnt = 0 ∧ State.reset.faults = 0) ∧
  (∀ s : State, s.cfg.wellFormed = true → s.inited = false → s.strobe = false →
    step s = .next { s with tau := s.tau + 1, hostInit := s.hostInit.tail }) ∧
  (∀ s : State, s.inited = false → s.armed = false → s.pins = ⟨none, none, none⟩)

/-- INIT (R136): every write, `FAULTS` unchanged; with the default tables `LINES_REM` is 11 and `PERIOD` is 507. -/
def Obligations.InitWrites : Prop :=
  (∀ s : State, s.cfg.wellFormed = true → s.inited = false → s.strobe = true →
    step s = .next { s with
      color := 0
      syncC := s.cfg.syncIdleLevel
      phase := .frontPorch
      linesRem := BitVec.ofNat 16 s.cfg.vFpLines
      period := BitVec.ofNat 16 s.cfg.hFullLineNbTicks
      tcnt := 0
      evtFlag := false
      pending := false
      entrycnt := 0
      seqPc := 31
      opcnt := 0
      evtIE := true
      armed := true
      gie := true
      inited := true
      colorLine := []
      syncLine := []
      tauInit := some s.tau
      tau := s.tau + 1
      hostInit := s.hostInit.tail }) ∧
  (∀ s t : State, s.cfg.wellFormed = true → s.cfg.defaultTables → s.inited = false → s.strobe = true → step s = .next t →
    t.linesRem = 11 ∧ t.period = 507 ∧ t.tctrl = 0b00000111 ∧ t.istat = 0b001)

/-- A second INIT (R137) raises `PE_REINIT`, and its tick is otherwise the tick without a strobe. -/
def Obligations.SecondInitOnlyRaises : Prop :=
  ∀ s : State, s.cfg.wellFormed = true → s.inited = true → s.strobe = true →
  ∃ t t', step s = .next t ∧ step { s with hostInit := false :: s.hostInit.tail } = .next t' ∧
    t.faults = t'.faults ||| 0b00100000 ∧ t = { t' with faults := t.faults, firstRaise := t.firstRaise }

/-! ## The pins -/

/-- The colour and vertical sync pins follow their registers by the constant delay from INIT on, and are X until a delay has
passed since INIT (R38, R39). -/
def Obligations.PinsFollowTheirRegisters : Prop :=
  (∀ s : State, s.cfg.wellFormed = true → s.inited = true →
    (∃ t, ticks s.cfg.outLatColor s = .next t ∧ t.rgb = some s.color) ∧
    (∃ t, ticks s.cfg.outLatSync s = .next t ∧ t.vsync = some s.syncC)) ∧
  (∀ (s : State) (k : Nat), s.cfg.wellFormed = true → s.inited = false → s.strobe = true →
    (k < s.cfg.outLatColor → ∃ t, ticks (k + 1) s = .next t ∧ t.rgb = none) ∧
    (k < s.cfg.outLatSync → ∃ t, ticks (k + 1) s = .next t ∧ t.vsync = none)) ∧
  (∀ s : State, s.inited = false → s.rgb = none ∧ s.vsync = none)

/-- `HSYNC` (R40), for both of its sources. -/
def Obligations.HsyncFollowsTheCounter : Prop :=
  ∀ s : State,
  (s.cfg.hsyncSource = .timerCompare →
    (s.armed = true → s.tcnt.toNat < s.cfg.hSyncTicks → s.hsync = some (!s.cfg.syncIdleLevel)) ∧
    (¬(s.armed = true ∧ s.tcnt.toNat < s.cfg.hSyncTicks) →
      s.hsync = if s.inited then some s.cfg.syncIdleLevel else none)) ∧
  (s.cfg.hsyncSource = .undriven → s.hsync = none)

/-! ## Invariants -/

/-- The legal states hold at power-on. -/
def Obligations.LegalAtReset : Prop := State.reset.Legal

/-- Every step keeps the legal states (R24 with R27, R28, R110, R112, R116, R138), whatever words stand in the ROM: among them
`1 <= LINES_REM <= COUNT(PHASE)`, the counter below the period, and `INVARIANT` never raised. -/
def Obligations.LegalIsKept : Prop :=
  ∀ s t : State, s.Legal → step s = .next t → t.Legal

/-- `OPCNT` stays within its 16 bits until a WAIT is missed (R31; log 5 for the exception). -/
def Obligations.OpcntFitsUntilAMiss : Prop :=
  ∀ s t : State, (s.opcnt < 65536 ∨ s.raised .tvWaitMissed = true) → step s = .next t →
  (t.opcnt < 65536 ∨ t.raised .tvWaitMissed = true)

/-- The record of the first raise is there exactly when a fault has been raised (R110; the record is the model's, log 13). -/
def Obligations.FirstRaiseRecordsFaults : Prop :=
  ∀ s t : State, (s.firstRaise = none ↔ s.faults = 0) → step s = .next t →
  (t.firstRaise = none ↔ t.faults = 0) ∧ (s.firstRaise ≠ none → t.firstRaise = s.firstRaise)

/-! ## Timing -/

/-- The counter and the events from INIT on (R113, R114): `n` ticks after `τ_init + 1`, `TCNT = n mod PERIOD`, and the event flag
stands at every period boundary but the arming. -/
def Obligations.CounterAndEventsFromInit : Prop :=
  ∀ (s : State) (n : Nat), s.cfg.wellFormed = true → s.inited = false → s.strobe = true →
  ∃ t, ticks (n + 1) s = .next t ∧ t.tcnt.toNat = n % s.cfg.hFullLineNbTicks ∧
    t.evtFlag = decide (n % s.cfg.hFullLineNbTicks = 0 ∧ n ≠ 0) ∧ t.tauInit = some s.tau ∧ t.tau = s.tau + 1 + n

/-- INIT puts a powered-on block with parameters within the line budget on schedule. -/
def Obligations.InitStartsTheSchedule : Prop :=
  ∀ s t : State, s.PoweredOn → s.cfg.lineBudget → s.cfg.activeStart ≤ 255 → step s = .next t → t.OnSchedule

/-- The line schedule is kept by every tick (R145, the induction of its argument), whatever is drawn. -/
def Obligations.ScheduleIsKept : Prop :=
  ∀ s t : State, s.OnSchedule → step s = .next t → t.OnSchedule

/-- The line budget suffices (R145, "if"): within T1 to T5, no run from INIT ever raises a fault, whatever is drawn. -/
def Obligations.NoFaultWithinTheLineBudget : Prop :=
  ∀ (s : State) (n : Nat), s.PoweredOn → s.cfg.lineBudget → s.cfg.activeStart ≤ 255 →
  ∃ t, ticks n s = .next t ∧ t.faults = 0

/-- The waveform of `COLOR` and `SYNC_C` at every tick from INIT on (R101, R102, R104, R109), within the line budget, whatever is
drawn: the band schedule on ActiveVideo lines, blank elsewhere, and the sync pulse between the two boundary lines. -/
def Obligations.WaveformFromInit : Prop :=
  ∀ (s : State) (n : Nat), s.PoweredOn → s.cfg.lineBudget → s.cfg.activeStart ≤ 255 →
  ∃ t, ticks (n + 1) s = .next t ∧ t.color = s.cfg.waveColour n ∧ t.syncC = s.cfg.waveSync n

/-- The waveform on the pins (R108, R149), within the line budget, `n` ticks after `τ_init + 1`: `RGB` and `VSYNC` show the waveform
of their registers, shifted by their delays, and `HSYNC` under `TIMER_COMPARE` is asserted for the first `H_SYNC_TICKS` ticks of
every line. -/
def Obligations.PinWaveformFromInit : Prop :=
  ∀ (s : State) (n : Nat), s.PoweredOn → s.cfg.lineBudget → s.cfg.activeStart ≤ 255 →
  ∃ t, ticks (n + 1) s = .next t ∧ t.observe = t.pins ∧
    (s.cfg.outLatColor ≤ n → t.rgb = some (s.cfg.waveColour (n - s.cfg.outLatColor))) ∧
    (s.cfg.outLatSync ≤ n → t.vsync = some (s.cfg.waveSync (n - s.cfg.outLatSync))) ∧
    (s.cfg.hsyncSource = .timerCompare →
      t.hsync = some (if s.cfg.offsetOf n < s.cfg.hSyncTicks then !s.cfg.syncIdleLevel else s.cfg.syncIdleLevel))

/-- The pins do not depend on what is drawn (R108): two powered-on blocks of one configuration within the line budget, whatever
draws they take and whatever stands in their unspecified elements, show the same levels on every pin at every tick. -/
def Obligations.PinsDoNotDependOnDraws : Prop :=
  ∀ (s s' : State) (n : Nat), s.PoweredOn → s'.PoweredOn → s'.cfg = s.cfg → s.cfg.lineBudget → s.cfg.activeStart ≤ 255 →
  ∃ t t', ticks n s = .next t ∧ ticks n s' = .next t' ∧ t'.observe = t.observe

/-- The contexts (R126), from INIT on and with the ROM of the configuration, whatever the timing and the faults raised: Idle becomes
Handler exactly at event entry, and Handler becomes Idle exactly when RET's duration elapses. -/
def Obligations.ContextChanges : Prop :=
  ∀ s t : State, s.OnProgram → s.inited = true → step s = .next t →
  (s.context = .idle → (t.context = .handler ↔ s.atSequencer.enters = true)) ∧
  (s.context = .handler → (t.context = .idle ↔
    (s.seqPc = 31 ∧ s.opcnt = 1) ∨ (s.issued = some .ret ∧ s.cfg.durRet.ticks = 1)))

/-- The Sequencer stands in a line program or idle at power-on. -/
def Obligations.OnProgramAtReset : Prop := State.reset.OnProgram

/-- Every step keeps the Sequencer in a line program or idle (R65 "every index a program reaches", R66, R97, R98), whatever is
drawn, also outside the line budget, after any fault and under any strobe. -/
def Obligations.OnProgramIsKept : Prop :=
  ∀ s t : State, s.OnProgram → step s = .next t → t.OnProgram
end

