-- ==== Sys2Proof/Laws/State.lean ====
section
/-! SUPPORT. One lemma per field and update of the state, true by rfl: no later proof unfolds a record update. -/

namespace Sys2Proof.Machine

/-! ### `State.raise` -/

@[simp] theorem raise_phase (s : State) (f : FaultCode) : (s.raise f).phase = s.phase := rfl
@[simp] theorem raise_linesRem (s : State) (f : FaultCode) : (s.raise f).linesRem = s.linesRem := rfl
@[simp] theorem raise_color (s : State) (f : FaultCode) : (s.raise f).color = s.color := rfl
@[simp] theorem raise_syncC (s : State) (f : FaultCode) : (s.raise f).syncC = s.syncC := rfl
@[simp] theorem raise_tcnt (s : State) (f : FaultCode) : (s.raise f).tcnt = s.tcnt := rfl
@[simp] theorem raise_period (s : State) (f : FaultCode) : (s.raise f).period = s.period := rfl
@[simp] theorem raise_armed (s : State) (f : FaultCode) : (s.raise f).armed = s.armed := rfl
@[simp] theorem raise_evtIE (s : State) (f : FaultCode) : (s.raise f).evtIE = s.evtIE := rfl
@[simp] theorem raise_gie (s : State) (f : FaultCode) : (s.raise f).gie = s.gie := rfl
@[simp] theorem raise_pending (s : State) (f : FaultCode) : (s.raise f).pending = s.pending := rfl
@[simp] theorem raise_evtFlag (s : State) (f : FaultCode) : (s.raise f).evtFlag = s.evtFlag := rfl
@[simp] theorem raise_seqPc (s : State) (f : FaultCode) : (s.raise f).seqPc = s.seqPc := rfl
@[simp] theorem raise_opcnt (s : State) (f : FaultCode) : (s.raise f).opcnt = s.opcnt := rfl
@[simp] theorem raise_entrycnt (s : State) (f : FaultCode) : (s.raise f).entrycnt = s.entrycnt := rfl
@[simp] theorem raise_faults (s : State) (f : FaultCode) : (s.raise f).faults = s.faults ||| f.bit := rfl
@[simp] theorem raise_inited (s : State) (f : FaultCode) : (s.raise f).inited = s.inited := rfl
@[simp] theorem raise_cfg (s : State) (f : FaultCode) : (s.raise f).cfg = s.cfg := rfl
@[simp] theorem raise_rom (s : State) (f : FaultCode) : (s.raise f).rom = s.rom := rfl
@[simp] theorem raise_targetAbs (s : State) (f : FaultCode) : (s.raise f).targetAbs = s.targetAbs := rfl
@[simp] theorem raise_colorLine (s : State) (f : FaultCode) : (s.raise f).colorLine = s.colorLine := rfl
@[simp] theorem raise_syncLine (s : State) (f : FaultCode) : (s.raise f).syncLine = s.syncLine := rfl
@[simp] theorem raise_tau (s : State) (f : FaultCode) : (s.raise f).tau = s.tau := rfl
@[simp] theorem raise_tauInit (s : State) (f : FaultCode) : (s.raise f).tauInit = s.tauInit := rfl
@[simp] theorem raise_firstRaise (s : State) (f : FaultCode) : (s.raise f).firstRaise = s.firstRaise.or (some ⟨f, s.tau, s.seqPc⟩) := rfl
@[simp] theorem raise_hostInit (s : State) (f : FaultCode) : (s.raise f).hostInit = s.hostInit := rfl
@[simp] theorem raise_draws (s : State) (f : FaultCode) : (s.raise f).draws = s.draws := rfl

/-! ### `State.afterDraw` -/

@[simp] theorem afterDraw_phase (s : State) : s.afterDraw.phase = s.phase := rfl
@[simp] theorem afterDraw_linesRem (s : State) : s.afterDraw.linesRem = s.linesRem := rfl
@[simp] theorem afterDraw_color (s : State) : s.afterDraw.color = s.color := rfl
@[simp] theorem afterDraw_syncC (s : State) : s.afterDraw.syncC = s.syncC := rfl
@[simp] theorem afterDraw_tcnt (s : State) : s.afterDraw.tcnt = s.tcnt := rfl
@[simp] theorem afterDraw_period (s : State) : s.afterDraw.period = s.period := rfl
@[simp] theorem afterDraw_armed (s : State) : s.afterDraw.armed = s.armed := rfl
@[simp] theorem afterDraw_evtIE (s : State) : s.afterDraw.evtIE = s.evtIE := rfl
@[simp] theorem afterDraw_gie (s : State) : s.afterDraw.gie = s.gie := rfl
@[simp] theorem afterDraw_pending (s : State) : s.afterDraw.pending = s.pending := rfl
@[simp] theorem afterDraw_evtFlag (s : State) : s.afterDraw.evtFlag = s.evtFlag := rfl
@[simp] theorem afterDraw_seqPc (s : State) : s.afterDraw.seqPc = s.seqPc := rfl
@[simp] theorem afterDraw_opcnt (s : State) : s.afterDraw.opcnt = s.opcnt := rfl
@[simp] theorem afterDraw_entrycnt (s : State) : s.afterDraw.entrycnt = s.entrycnt := rfl
@[simp] theorem afterDraw_faults (s : State) : s.afterDraw.faults = s.faults := rfl
@[simp] theorem afterDraw_inited (s : State) : s.afterDraw.inited = s.inited := rfl
@[simp] theorem afterDraw_cfg (s : State) : s.afterDraw.cfg = s.cfg := rfl
@[simp] theorem afterDraw_rom (s : State) : s.afterDraw.rom = s.rom := rfl
@[simp] theorem afterDraw_targetAbs (s : State) : s.afterDraw.targetAbs = s.targetAbs := rfl
@[simp] theorem afterDraw_colorLine (s : State) : s.afterDraw.colorLine = s.colorLine := rfl
@[simp] theorem afterDraw_syncLine (s : State) : s.afterDraw.syncLine = s.syncLine := rfl
@[simp] theorem afterDraw_tau (s : State) : s.afterDraw.tau = s.tau := rfl
@[simp] theorem afterDraw_tauInit (s : State) : s.afterDraw.tauInit = s.tauInit := rfl
@[simp] theorem afterDraw_firstRaise (s : State) : s.afterDraw.firstRaise = s.firstRaise := rfl
@[simp] theorem afterDraw_hostInit (s : State) : s.afterDraw.hostInit = s.hostInit := rfl
@[simp] theorem afterDraw_draws (s : State) : s.afterDraw.draws = s.draws + 1 := rfl

/-! ### `State.run` -/

@[simp] theorem run_phase (s : State) (d : Nat) : (s.run d).phase = s.phase := rfl
@[simp] theorem run_linesRem (s : State) (d : Nat) : (s.run d).linesRem = s.linesRem := rfl
@[simp] theorem run_color (s : State) (d : Nat) : (s.run d).color = s.color := rfl
@[simp] theorem run_syncC (s : State) (d : Nat) : (s.run d).syncC = s.syncC := rfl
@[simp] theorem run_tcnt (s : State) (d : Nat) : (s.run d).tcnt = s.tcnt := rfl
@[simp] theorem run_period (s : State) (d : Nat) : (s.run d).period = s.period := rfl
@[simp] theorem run_armed (s : State) (d : Nat) : (s.run d).armed = s.armed := rfl
@[simp] theorem run_evtIE (s : State) (d : Nat) : (s.run d).evtIE = s.evtIE := rfl
@[simp] theorem run_gie (s : State) (d : Nat) : (s.run d).gie = s.gie := rfl
@[simp] theorem run_pending (s : State) (d : Nat) : (s.run d).pending = s.pending := rfl
@[simp] theorem run_evtFlag (s : State) (d : Nat) : (s.run d).evtFlag = s.evtFlag := rfl
@[simp] theorem run_seqPc (s : State) (d : Nat) : (s.run d).seqPc = s.seqPc := rfl
@[simp] theorem run_opcnt (s : State) (d : Nat) : (s.run d).opcnt = d - 1 := rfl
@[simp] theorem run_entrycnt (s : State) (d : Nat) : (s.run d).entrycnt = s.entrycnt := rfl
@[simp] theorem run_faults (s : State) (d : Nat) : (s.run d).faults = s.faults := rfl
@[simp] theorem run_inited (s : State) (d : Nat) : (s.run d).inited = s.inited := rfl
@[simp] theorem run_cfg (s : State) (d : Nat) : (s.run d).cfg = s.cfg := rfl
@[simp] theorem run_rom (s : State) (d : Nat) : (s.run d).rom = s.rom := rfl
@[simp] theorem run_targetAbs (s : State) (d : Nat) : (s.run d).targetAbs = s.targetAbs := rfl
@[simp] theorem run_colorLine (s : State) (d : Nat) : (s.run d).colorLine = s.colorLine := rfl
@[simp] theorem run_syncLine (s : State) (d : Nat) : (s.run d).syncLine = s.syncLine := rfl
@[simp] theorem run_tau (s : State) (d : Nat) : (s.run d).tau = s.tau := rfl
@[simp] theorem run_tauInit (s : State) (d : Nat) : (s.run d).tauInit = s.tauInit := rfl
@[simp] theorem run_firstRaise (s : State) (d : Nat) : (s.run d).firstRaise = s.firstRaise := rfl
@[simp] theorem run_hostInit (s : State) (d : Nat) : (s.run d).hostInit = s.hostInit := rfl
@[simp] theorem run_draws (s : State) (d : Nat) : (s.run d).draws = s.draws := rfl

/-! ### `State.nextPc` -/

@[simp] theorem nextPc_phase (s : State) : s.nextPc.phase = s.phase := rfl
@[simp] theorem nextPc_linesRem (s : State) : s.nextPc.linesRem = s.linesRem := rfl
@[simp] theorem nextPc_color (s : State) : s.nextPc.color = s.color := rfl
@[simp] theorem nextPc_syncC (s : State) : s.nextPc.syncC = s.syncC := rfl
@[simp] theorem nextPc_tcnt (s : State) : s.nextPc.tcnt = s.tcnt := rfl
@[simp] theorem nextPc_period (s : State) : s.nextPc.period = s.period := rfl
@[simp] theorem nextPc_armed (s : State) : s.nextPc.armed = s.armed := rfl
@[simp] theorem nextPc_evtIE (s : State) : s.nextPc.evtIE = s.evtIE := rfl
@[simp] theorem nextPc_gie (s : State) : s.nextPc.gie = s.gie := rfl
@[simp] theorem nextPc_pending (s : State) : s.nextPc.pending = s.pending := rfl
@[simp] theorem nextPc_evtFlag (s : State) : s.nextPc.evtFlag = s.evtFlag := rfl
@[simp] theorem nextPc_seqPc (s : State) : s.nextPc.seqPc = s.seqPc + 1 := rfl
@[simp] theorem nextPc_opcnt (s : State) : s.nextPc.opcnt = s.opcnt := rfl
@[simp] theorem nextPc_entrycnt (s : State) : s.nextPc.entrycnt = s.entrycnt := rfl
@[simp] theorem nextPc_faults (s : State) : s.nextPc.faults = s.faults := rfl
@[simp] theorem nextPc_inited (s : State) : s.nextPc.inited = s.inited := rfl
@[simp] theorem nextPc_cfg (s : State) : s.nextPc.cfg = s.cfg := rfl
@[simp] theorem nextPc_rom (s : State) : s.nextPc.rom = s.rom := rfl
@[simp] theorem nextPc_targetAbs (s : State) : s.nextPc.targetAbs = s.targetAbs := rfl
@[simp] theorem nextPc_colorLine (s : State) : s.nextPc.colorLine = s.colorLine := rfl
@[simp] theorem nextPc_syncLine (s : State) : s.nextPc.syncLine = s.syncLine := rfl
@[simp] theorem nextPc_tau (s : State) : s.nextPc.tau = s.tau := rfl
@[simp] theorem nextPc_tauInit (s : State) : s.nextPc.tauInit = s.tauInit := rfl
@[simp] theorem nextPc_firstRaise (s : State) : s.nextPc.firstRaise = s.firstRaise := rfl
@[simp] theorem nextPc_hostInit (s : State) : s.nextPc.hostInit = s.hostInit := rfl
@[simp] theorem nextPc_draws (s : State) : s.nextPc.draws = s.draws := rfl

/-! ### `State.enterEvent` -/

@[simp] theorem enterEvent_phase (s : State) : s.enterEvent.phase = s.phase := rfl
@[simp] theorem enterEvent_linesRem (s : State) : s.enterEvent.linesRem = s.linesRem := rfl
@[simp] theorem enterEvent_color (s : State) : s.enterEvent.color = s.color := rfl
@[simp] theorem enterEvent_syncC (s : State) : s.enterEvent.syncC = s.syncC := rfl
@[simp] theorem enterEvent_tcnt (s : State) : s.enterEvent.tcnt = s.tcnt := rfl
@[simp] theorem enterEvent_period (s : State) : s.enterEvent.period = s.period := rfl
@[simp] theorem enterEvent_armed (s : State) : s.enterEvent.armed = s.armed := rfl
@[simp] theorem enterEvent_evtIE (s : State) : s.enterEvent.evtIE = s.evtIE := rfl
@[simp] theorem enterEvent_gie (s : State) : s.enterEvent.gie = s.gie := rfl
@[simp] theorem enterEvent_pending (s : State) : s.enterEvent.pending = false := rfl
@[simp] theorem enterEvent_evtFlag (s : State) : s.enterEvent.evtFlag = s.evtFlag := rfl
@[simp] theorem enterEvent_seqPc (s : State) : s.enterEvent.seqPc = entryPc := rfl
@[simp] theorem enterEvent_opcnt (s : State) : s.enterEvent.opcnt = 0 := rfl
@[simp] theorem enterEvent_entrycnt (s : State) : s.enterEvent.entrycnt = s.entrycnt := rfl
@[simp] theorem enterEvent_faults (s : State) : s.enterEvent.faults = s.faults := rfl
@[simp] theorem enterEvent_inited (s : State) : s.enterEvent.inited = s.inited := rfl
@[simp] theorem enterEvent_cfg (s : State) : s.enterEvent.cfg = s.cfg := rfl
@[simp] theorem enterEvent_rom (s : State) : s.enterEvent.rom = s.rom := rfl
@[simp] theorem enterEvent_targetAbs (s : State) : s.enterEvent.targetAbs = s.targetAbs := rfl
@[simp] theorem enterEvent_colorLine (s : State) : s.enterEvent.colorLine = s.colorLine := rfl
@[simp] theorem enterEvent_syncLine (s : State) : s.enterEvent.syncLine = s.syncLine := rfl
@[simp] theorem enterEvent_tau (s : State) : s.enterEvent.tau = s.tau := rfl
@[simp] theorem enterEvent_tauInit (s : State) : s.enterEvent.tauInit = s.tauInit := rfl
@[simp] theorem enterEvent_firstRaise (s : State) : s.enterEvent.firstRaise = s.firstRaise := rfl
@[simp] theorem enterEvent_hostInit (s : State) : s.enterEvent.hostInit = s.hostInit := rfl
@[simp] theorem enterEvent_draws (s : State) : s.enterEvent.draws = s.draws := rfl

/-! ### `State.leaveProgram` -/

@[simp] theorem leaveProgram_phase (s : State) : s.leaveProgram.phase = s.phase := rfl
@[simp] theorem leaveProgram_linesRem (s : State) : s.leaveProgram.linesRem = s.linesRem := rfl
@[simp] theorem leaveProgram_color (s : State) : s.leaveProgram.color = s.color := rfl
@[simp] theorem leaveProgram_syncC (s : State) : s.leaveProgram.syncC = s.syncC := rfl
@[simp] theorem leaveProgram_tcnt (s : State) : s.leaveProgram.tcnt = s.tcnt := rfl
@[simp] theorem leaveProgram_period (s : State) : s.leaveProgram.period = s.period := rfl
@[simp] theorem leaveProgram_armed (s : State) : s.leaveProgram.armed = s.armed := rfl
@[simp] theorem leaveProgram_evtIE (s : State) : s.leaveProgram.evtIE = s.evtIE := rfl
@[simp] theorem leaveProgram_gie (s : State) : s.leaveProgram.gie = s.gie := rfl
@[simp] theorem leaveProgram_pending (s : State) : s.leaveProgram.pending = s.pending := rfl
@[simp] theorem leaveProgram_evtFlag (s : State) : s.leaveProgram.evtFlag = s.evtFlag := rfl
@[simp] theorem leaveProgram_seqPc (s : State) : s.leaveProgram.seqPc = idlePc := rfl
@[simp] theorem leaveProgram_opcnt (s : State) : s.leaveProgram.opcnt = s.opcnt := rfl
@[simp] theorem leaveProgram_entrycnt (s : State) : s.leaveProgram.entrycnt = s.entrycnt := rfl
@[simp] theorem leaveProgram_faults (s : State) : s.leaveProgram.faults = s.faults := rfl
@[simp] theorem leaveProgram_inited (s : State) : s.leaveProgram.inited = s.inited := rfl
@[simp] theorem leaveProgram_cfg (s : State) : s.leaveProgram.cfg = s.cfg := rfl
@[simp] theorem leaveProgram_rom (s : State) : s.leaveProgram.rom = s.rom := rfl
@[simp] theorem leaveProgram_targetAbs (s : State) : s.leaveProgram.targetAbs = s.targetAbs := rfl
@[simp] theorem leaveProgram_colorLine (s : State) : s.leaveProgram.colorLine = s.colorLine := rfl
@[simp] theorem leaveProgram_syncLine (s : State) : s.leaveProgram.syncLine = s.syncLine := rfl
@[simp] theorem leaveProgram_tau (s : State) : s.leaveProgram.tau = s.tau := rfl
@[simp] theorem leaveProgram_tauInit (s : State) : s.leaveProgram.tauInit = s.tauInit := rfl
@[simp] theorem leaveProgram_firstRaise (s : State) : s.leaveProgram.firstRaise = s.firstRaise := rfl
@[simp] theorem leaveProgram_hostInit (s : State) : s.leaveProgram.hostInit = s.hostInit := rfl
@[simp] theorem leaveProgram_draws (s : State) : s.leaveProgram.draws = s.draws := rfl

/-! ### `State.abandon` -/

@[simp] theorem abandon_phase (s : State) : s.abandon.phase = s.phase := rfl
@[simp] theorem abandon_linesRem (s : State) : s.abandon.linesRem = s.linesRem := rfl
@[simp] theorem abandon_color (s : State) : s.abandon.color = s.color := rfl
@[simp] theorem abandon_syncC (s : State) : s.abandon.syncC = s.syncC := rfl
@[simp] theorem abandon_tcnt (s : State) : s.abandon.tcnt = s.tcnt := rfl
@[simp] theorem abandon_period (s : State) : s.abandon.period = s.period := rfl
@[simp] theorem abandon_armed (s : State) : s.abandon.armed = s.armed := rfl
@[simp] theorem abandon_evtIE (s : State) : s.abandon.evtIE = s.evtIE := rfl
@[simp] theorem abandon_gie (s : State) : s.abandon.gie = s.gie := rfl
@[simp] theorem abandon_pending (s : State) : s.abandon.pending = s.pending := rfl
@[simp] theorem abandon_evtFlag (s : State) : s.abandon.evtFlag = s.evtFlag := rfl
@[simp] theorem abandon_seqPc (s : State) : s.abandon.seqPc = idlePc := rfl
@[simp] theorem abandon_opcnt (s : State) : s.abandon.opcnt = 0 := rfl
@[simp] theorem abandon_entrycnt (s : State) : s.abandon.entrycnt = s.entrycnt := rfl
@[simp] theorem abandon_faults (s : State) : s.abandon.faults = s.faults ||| FaultCode.illegalOp.bit := rfl
@[simp] theorem abandon_inited (s : State) : s.abandon.inited = s.inited := rfl
@[simp] theorem abandon_cfg (s : State) : s.abandon.cfg = s.cfg := rfl
@[simp] theorem abandon_rom (s : State) : s.abandon.rom = s.rom := rfl
@[simp] theorem abandon_targetAbs (s : State) : s.abandon.targetAbs = s.targetAbs := rfl
@[simp] theorem abandon_colorLine (s : State) : s.abandon.colorLine = s.colorLine := rfl
@[simp] theorem abandon_syncLine (s : State) : s.abandon.syncLine = s.syncLine := rfl
@[simp] theorem abandon_tau (s : State) : s.abandon.tau = s.tau := rfl
@[simp] theorem abandon_tauInit (s : State) : s.abandon.tauInit = s.tauInit := rfl
@[simp] theorem abandon_firstRaise (s : State) : s.abandon.firstRaise = s.firstRaise.or (some ⟨.illegalOp, s.tau, s.seqPc⟩) := rfl
@[simp] theorem abandon_hostInit (s : State) : s.abandon.hostInit = s.hostInit := rfl
@[simp] theorem abandon_draws (s : State) : s.abandon.draws = s.draws := rfl

/-! ### `State.latchPins` -/

@[simp] theorem latchPins_phase (s : State) : s.latchPins.phase = s.phase := rfl
@[simp] theorem latchPins_linesRem (s : State) : s.latchPins.linesRem = s.linesRem := rfl
@[simp] theorem latchPins_color (s : State) : s.latchPins.color = s.color := rfl
@[simp] theorem latchPins_syncC (s : State) : s.latchPins.syncC = s.syncC := rfl
@[simp] theorem latchPins_tcnt (s : State) : s.latchPins.tcnt = s.tcnt := rfl
@[simp] theorem latchPins_period (s : State) : s.latchPins.period = s.period := rfl
@[simp] theorem latchPins_armed (s : State) : s.latchPins.armed = s.armed := rfl
@[simp] theorem latchPins_evtIE (s : State) : s.latchPins.evtIE = s.evtIE := rfl
@[simp] theorem latchPins_gie (s : State) : s.latchPins.gie = s.gie := rfl
@[simp] theorem latchPins_pending (s : State) : s.latchPins.pending = s.pending := rfl
@[simp] theorem latchPins_evtFlag (s : State) : s.latchPins.evtFlag = s.evtFlag := rfl
@[simp] theorem latchPins_seqPc (s : State) : s.latchPins.seqPc = s.seqPc := rfl
@[simp] theorem latchPins_opcnt (s : State) : s.latchPins.opcnt = s.opcnt := rfl
@[simp] theorem latchPins_entrycnt (s : State) : s.latchPins.entrycnt = s.entrycnt := rfl
@[simp] theorem latchPins_faults (s : State) : s.latchPins.faults = s.faults := rfl
@[simp] theorem latchPins_inited (s : State) : s.latchPins.inited = s.inited := rfl
@[simp] theorem latchPins_cfg (s : State) : s.latchPins.cfg = s.cfg := rfl
@[simp] theorem latchPins_rom (s : State) : s.latchPins.rom = s.rom := rfl
@[simp] theorem latchPins_targetAbs (s : State) : s.latchPins.targetAbs = s.targetAbs := rfl
@[simp] theorem latchPins_colorLine (s : State) : s.latchPins.colorLine = (s.color :: s.colorLine).take s.cfg.outLatColor := rfl
@[simp] theorem latchPins_syncLine (s : State) : s.latchPins.syncLine = (s.syncC :: s.syncLine).take s.cfg.outLatSync := rfl
@[simp] theorem latchPins_tau (s : State) : s.latchPins.tau = s.tau := rfl
@[simp] theorem latchPins_tauInit (s : State) : s.latchPins.tauInit = s.tauInit := rfl
@[simp] theorem latchPins_firstRaise (s : State) : s.latchPins.firstRaise = s.firstRaise := rfl
@[simp] theorem latchPins_hostInit (s : State) : s.latchPins.hostInit = s.hostInit := rfl
@[simp] theorem latchPins_draws (s : State) : s.latchPins.draws = s.draws := rfl

/-! ### `State.endTick` -/

@[simp] theorem endTick_phase (s : State) : s.endTick.phase = s.phase := rfl
@[simp] theorem endTick_linesRem (s : State) : s.endTick.linesRem = s.linesRem := rfl
@[simp] theorem endTick_color (s : State) : s.endTick.color = s.color := rfl
@[simp] theorem endTick_syncC (s : State) : s.endTick.syncC = s.syncC := rfl
@[simp] theorem endTick_tcnt (s : State) : s.endTick.tcnt = s.tcnt := rfl
@[simp] theorem endTick_period (s : State) : s.endTick.period = s.period := rfl
@[simp] theorem endTick_armed (s : State) : s.endTick.armed = s.armed := rfl
@[simp] theorem endTick_evtIE (s : State) : s.endTick.evtIE = s.evtIE := rfl
@[simp] theorem endTick_gie (s : State) : s.endTick.gie = s.gie := rfl
@[simp] theorem endTick_pending (s : State) : s.endTick.pending = s.pending := rfl
@[simp] theorem endTick_evtFlag (s : State) : s.endTick.evtFlag = s.evtFlag := rfl
@[simp] theorem endTick_seqPc (s : State) : s.endTick.seqPc = s.seqPc := rfl
@[simp] theorem endTick_opcnt (s : State) : s.endTick.opcnt = s.opcnt := rfl
@[simp] theorem endTick_entrycnt (s : State) : s.endTick.entrycnt = s.entrycnt := rfl
@[simp] theorem endTick_faults (s : State) : s.endTick.faults = s.faults := rfl
@[simp] theorem endTick_inited (s : State) : s.endTick.inited = s.inited := rfl
@[simp] theorem endTick_cfg (s : State) : s.endTick.cfg = s.cfg := rfl
@[simp] theorem endTick_rom (s : State) : s.endTick.rom = s.rom := rfl
@[simp] theorem endTick_targetAbs (s : State) : s.endTick.targetAbs = s.targetAbs := rfl
@[simp] theorem endTick_colorLine (s : State) : s.endTick.colorLine = s.colorLine := rfl
@[simp] theorem endTick_syncLine (s : State) : s.endTick.syncLine = s.syncLine := rfl
@[simp] theorem endTick_tau (s : State) : s.endTick.tau = s.tau + 1 := rfl
@[simp] theorem endTick_tauInit (s : State) : s.endTick.tauInit = s.tauInit := rfl
@[simp] theorem endTick_firstRaise (s : State) : s.endTick.firstRaise = s.firstRaise := rfl
@[simp] theorem endTick_hostInit (s : State) : s.endTick.hostInit = s.hostInit := rfl
@[simp] theorem endTick_draws (s : State) : s.endTick.draws = s.draws := rfl

/-! ### `State.popStrobe` -/

@[simp] theorem popStrobe_phase (s : State) : s.popStrobe.phase = s.phase := rfl
@[simp] theorem popStrobe_linesRem (s : State) : s.popStrobe.linesRem = s.linesRem := rfl
@[simp] theorem popStrobe_color (s : State) : s.popStrobe.color = s.color := rfl
@[simp] theorem popStrobe_syncC (s : State) : s.popStrobe.syncC = s.syncC := rfl
@[simp] theorem popStrobe_tcnt (s : State) : s.popStrobe.tcnt = s.tcnt := rfl
@[simp] theorem popStrobe_period (s : State) : s.popStrobe.period = s.period := rfl
@[simp] theorem popStrobe_armed (s : State) : s.popStrobe.armed = s.armed := rfl
@[simp] theorem popStrobe_evtIE (s : State) : s.popStrobe.evtIE = s.evtIE := rfl
@[simp] theorem popStrobe_gie (s : State) : s.popStrobe.gie = s.gie := rfl
@[simp] theorem popStrobe_pending (s : State) : s.popStrobe.pending = s.pending := rfl
@[simp] theorem popStrobe_evtFlag (s : State) : s.popStrobe.evtFlag = s.evtFlag := rfl
@[simp] theorem popStrobe_seqPc (s : State) : s.popStrobe.seqPc = s.seqPc := rfl
@[simp] theorem popStrobe_opcnt (s : State) : s.popStrobe.opcnt = s.opcnt := rfl
@[simp] theorem popStrobe_entrycnt (s : State) : s.popStrobe.entrycnt = s.entrycnt := rfl
@[simp] theorem popStrobe_faults (s : State) : s.popStrobe.faults = s.faults := rfl
@[simp] theorem popStrobe_inited (s : State) : s.popStrobe.inited = s.inited := rfl
@[simp] theorem popStrobe_cfg (s : State) : s.popStrobe.cfg = s.cfg := rfl
@[simp] theorem popStrobe_rom (s : State) : s.popStrobe.rom = s.rom := rfl
@[simp] theorem popStrobe_targetAbs (s : State) : s.popStrobe.targetAbs = s.targetAbs := rfl
@[simp] theorem popStrobe_colorLine (s : State) : s.popStrobe.colorLine = s.colorLine := rfl
@[simp] theorem popStrobe_syncLine (s : State) : s.popStrobe.syncLine = s.syncLine := rfl
@[simp] theorem popStrobe_tau (s : State) : s.popStrobe.tau = s.tau := rfl
@[simp] theorem popStrobe_tauInit (s : State) : s.popStrobe.tauInit = s.tauInit := rfl
@[simp] theorem popStrobe_firstRaise (s : State) : s.popStrobe.firstRaise = s.firstRaise := rfl
@[simp] theorem popStrobe_hostInit (s : State) : s.popStrobe.hostInit = s.hostInit.tail := rfl
@[simp] theorem popStrobe_draws (s : State) : s.popStrobe.draws = s.draws := rfl

/-! ### `State.init` -/

@[simp] theorem init_phase (s : State) : s.init.phase = .frontPorch := rfl
@[simp] theorem init_linesRem (s : State) : s.init.linesRem = BitVec.ofNat 16 (s.cfg.count .frontPorch) := rfl
@[simp] theorem init_color (s : State) : s.init.color = 0 := rfl
@[simp] theorem init_syncC (s : State) : s.init.syncC = s.cfg.syncIdleLevel := rfl
@[simp] theorem init_tcnt (s : State) : s.init.tcnt = 0 := rfl
@[simp] theorem init_period (s : State) : s.init.period = BitVec.ofNat 16 s.cfg.hFullLineNbTicks := rfl
@[simp] theorem init_armed (s : State) : s.init.armed = true := rfl
@[simp] theorem init_evtIE (s : State) : s.init.evtIE = true := rfl
@[simp] theorem init_gie (s : State) : s.init.gie = true := rfl
@[simp] theorem init_pending (s : State) : s.init.pending = false := rfl
@[simp] theorem init_evtFlag (s : State) : s.init.evtFlag = false := rfl
@[simp] theorem init_seqPc (s : State) : s.init.seqPc = idlePc := rfl
@[simp] theorem init_opcnt (s : State) : s.init.opcnt = 0 := rfl
@[simp] theorem init_entrycnt (s : State) : s.init.entrycnt = 0 := rfl
@[simp] theorem init_faults (s : State) : s.init.faults = s.faults := rfl
@[simp] theorem init_inited (s : State) : s.init.inited = true := rfl
@[simp] theorem init_cfg (s : State) : s.init.cfg = s.cfg := rfl
@[simp] theorem init_rom (s : State) : s.init.rom = s.rom := rfl
@[simp] theorem init_targetAbs (s : State) : s.init.targetAbs = s.targetAbs := rfl
@[simp] theorem init_colorLine (s : State) : s.init.colorLine = [] := rfl
@[simp] theorem init_syncLine (s : State) : s.init.syncLine = [] := rfl
@[simp] theorem init_tau (s : State) : s.init.tau = s.tau := rfl
@[simp] theorem init_tauInit (s : State) : s.init.tauInit = some s.tau := rfl
@[simp] theorem init_firstRaise (s : State) : s.init.firstRaise = s.firstRaise := rfl
@[simp] theorem init_hostInit (s : State) : s.init.hostInit = s.hostInit := rfl
@[simp] theorem init_draws (s : State) : s.init.draws = s.draws := rfl

/-! ### `State.deliver`: the fields it leaves alone -/

@[simp] theorem deliver_phase (s : State) : s.deliver.phase = s.phase := by
  unfold State.deliver; split
  · dsimp only; split <;> split <;> rfl
  · rfl
@[simp] theorem deliver_linesRem (s : State) : s.deliver.linesRem = s.linesRem := by
  unfold State.deliver; split
  · dsimp only; split <;> split <;> rfl
  · rfl
@[simp] theorem deliver_color (s : State) : s.deliver.color = s.color := by
  unfold State.deliver; split
  · dsimp only; split <;> split <;> rfl
  · rfl
@[simp] theorem deliver_syncC (s : State) : s.deliver.syncC = s.syncC := by
  unfold State.deliver; split
  · dsimp only; split <;> split <;> rfl
  · rfl
@[simp] theorem deliver_tcnt (s : State) : s.deliver.tcnt = s.tcnt := by
  unfold State.deliver; split
  · dsimp only; split <;> split <;> rfl
  · rfl
@[simp] theorem deliver_period (s : State) : s.deliver.period = s.period := by
  unfold State.deliver; split
  · dsimp only; split <;> split <;> rfl
  · rfl
@[simp] theorem deliver_armed (s : State) : s.deliver.armed = s.armed := by
  unfold State.deliver; split
  · dsimp only; split <;> split <;> rfl
  · rfl
@[simp] theorem deliver_evtIE (s : State) : s.deliver.evtIE = s.evtIE := by
  unfold State.deliver; split
  · dsimp only; split <;> split <;> rfl
  · rfl
@[simp] theorem deliver_gie (s : State) : s.deliver.gie = s.gie := by
  unfold State.deliver; split
  · dsimp only; split <;> split <;> rfl
  · rfl
@[simp] theorem deliver_evtFlag (s : State) : s.deliver.evtFlag = s.evtFlag := by
  unfold State.deliver; split
  · dsimp only; split <;> split <;> rfl
  · rfl
@[simp] theorem deliver_seqPc (s : State) : s.deliver.seqPc = s.seqPc := by
  unfold State.deliver; split
  · dsimp only; split <;> split <;> rfl
  · rfl
@[simp] theorem deliver_opcnt (s : State) : s.deliver.opcnt = s.opcnt := by
  unfold State.deliver; split
  · dsimp only; split <;> split <;> rfl
  · rfl
@[simp] theorem deliver_inited (s : State) : s.deliver.inited = s.inited := by
  unfold State.deliver; split
  · dsimp only; split <;> split <;> rfl
  · rfl
@[simp] theorem deliver_cfg (s : State) : s.deliver.cfg = s.cfg := by
  unfold State.deliver; split
  · dsimp only; split <;> split <;> rfl
  · rfl
@[simp] theorem deliver_rom (s : State) : s.deliver.rom = s.rom := by
  unfold State.deliver; split
  · dsimp only; split <;> split <;> rfl
  · rfl
@[simp] theorem deliver_targetAbs (s : State) : s.deliver.targetAbs = s.targetAbs := by
  unfold State.deliver; split
  · dsimp only; split <;> split <;> rfl
  · rfl
@[simp] theorem deliver_colorLine (s : State) : s.deliver.colorLine = s.colorLine := by
  unfold State.deliver; split
  · dsimp only; split <;> split <;> rfl
  · rfl
@[simp] theorem deliver_syncLine (s : State) : s.deliver.syncLine = s.syncLine := by
  unfold State.deliver; split
  · dsimp only; split <;> split <;> rfl
  · rfl
@[simp] theorem deliver_tau (s : State) : s.deliver.tau = s.tau := by
  unfold State.deliver; split
  · dsimp only; split <;> split <;> rfl
  · rfl
@[simp] theorem deliver_tauInit (s : State) : s.deliver.tauInit = s.tauInit := by
  unfold State.deliver; split
  · dsimp only; split <;> split <;> rfl
  · rfl
@[simp] theorem deliver_hostInit (s : State) : s.deliver.hostInit = s.hostInit := by
  unfold State.deliver; split
  · dsimp only; split <;> split <;> rfl
  · rfl

/-! ### `State.frameClock`: the fields it leaves alone -/

@[simp] theorem frameClock_phase (s : State) : s.frameClock.phase = s.phase := by
  unfold State.frameClock; split <;> rfl
@[simp] theorem frameClock_linesRem (s : State) : s.frameClock.linesRem = s.linesRem := by
  unfold State.frameClock; split <;> rfl
@[simp] theorem frameClock_color (s : State) : s.frameClock.color = s.color := by
  unfold State.frameClock; split <;> rfl
@[simp] theorem frameClock_syncC (s : State) : s.frameClock.syncC = s.syncC := by
  unfold State.frameClock; split <;> rfl
@[simp] theorem frameClock_period (s : State) : s.frameClock.period = s.period := by
  unfold State.frameClock; split <;> rfl
@[simp] theorem frameClock_armed (s : State) : s.frameClock.armed = s.armed := by
  unfold State.frameClock; split <;> rfl
@[simp] theorem frameClock_evtIE (s : State) : s.frameClock.evtIE = s.evtIE := by
  unfold State.frameClock; split <;> rfl
@[simp] theorem frameClock_gie (s : State) : s.frameClock.gie = s.gie := by
  unfold State.frameClock; split <;> rfl
@[simp] theorem frameClock_pending (s : State) : s.frameClock.pending = s.pending := by
  unfold State.frameClock; split <;> rfl
@[simp] theorem frameClock_seqPc (s : State) : s.frameClock.seqPc = s.seqPc := by
  unfold State.frameClock; split <;> rfl
@[simp] theorem frameClock_opcnt (s : State) : s.frameClock.opcnt = s.opcnt := by
  unfold State.frameClock; split <;> rfl
@[simp] theorem frameClock_entrycnt (s : State) : s.frameClock.entrycnt = s.entrycnt := by
  unfold State.frameClock; split <;> rfl
@[simp] theorem frameClock_faults (s : State) : s.frameClock.faults = s.faults := by
  unfold State.frameClock; split <;> rfl
@[simp] theorem frameClock_inited (s : State) : s.frameClock.inited = s.inited := by
  unfold State.frameClock; split <;> rfl
@[simp] theorem frameClock_cfg (s : State) : s.frameClock.cfg = s.cfg := by
  unfold State.frameClock; split <;> rfl
@[simp] theorem frameClock_rom (s : State) : s.frameClock.rom = s.rom := by
  unfold State.frameClock; split <;> rfl
@[simp] theorem frameClock_targetAbs (s : State) : s.frameClock.targetAbs = s.targetAbs := by
  unfold State.frameClock; split <;> rfl
@[simp] theorem frameClock_colorLine (s : State) : s.frameClock.colorLine = s.colorLine := by
  unfold State.frameClock; split <;> rfl
@[simp] theorem frameClock_syncLine (s : State) : s.frameClock.syncLine = s.syncLine := by
  unfold State.frameClock; split <;> rfl
@[simp] theorem frameClock_tau (s : State) : s.frameClock.tau = s.tau := by
  unfold State.frameClock; split <;> rfl
@[simp] theorem frameClock_tauInit (s : State) : s.frameClock.tauInit = s.tauInit := by
  unfold State.frameClock; split <;> rfl
@[simp] theorem frameClock_firstRaise (s : State) : s.frameClock.firstRaise = s.firstRaise := by
  unfold State.frameClock; split <;> rfl
@[simp] theorem frameClock_hostInit (s : State) : s.frameClock.hostInit = s.hostInit := by
  unfold State.frameClock; split <;> rfl
@[simp] theorem frameClock_draws (s : State) : s.frameClock.draws = s.draws := by
  unfold State.frameClock; split <;> rfl

end Sys2Proof.Machine
end

