-- ==== Sys2Proof/Laws/Ops.lean ====
section
/-! SUPPORT. For each shared operation, once, everything it can do. -/

namespace Sys2Proof.Machine

/-! ### Fault bits and draws -/

/-- A fault's bit is set exactly by its own raise (R111). -/
theorem raised_raise (s : State) (f g : FaultCode) : (s.raise f).raised g = (s.raised g || decide (f = g)) := by
  cases f <;> cases g <;> simp [State.raised, FaultCode.bit, FaultCode.code]

/-- A draw lies in its range (R15). -/
theorem drawn_mem (s : State) (lo hi : Nat) (h : lo ≤ hi) : lo ≤ s.drawn lo hi ∧ s.drawn lo hi ≤ hi := by
  unfold State.drawn
  split
  · omega
  · have := Nat.mod_lt (Config.draw s.draws) (show hi - lo + 1 > 0 by omega)
    omega

/-- An unbounded draw is at least its bound (R75). -/
theorem le_drawnFrom (s : State) (lo : Nat) : lo ≤ s.drawnFrom lo := Nat.le_add_right _ _

/-! ### Busy -/

theorem busy_iff (s : State) : s.busy = true ↔ s.seqPc ≠ idlePc ∨ s.opcnt ≠ 0 := by
  simp [State.busy]

theorem busy_eq_false_iff (s : State) : s.busy = false ↔ s.seqPc = idlePc ∧ s.opcnt = 0 := by
  simp [State.busy]

/-! ### Delivery -/

/-- Without an enabled event, delivery does nothing. -/
theorem deliver_none (s : State) (h : (s.evtFlag && s.evtIE) = false) : s.deliver = s := by
  simp [State.deliver, h]

/-- Delivery leaves the Sequencer alone. -/
@[simp] theorem deliver_busy (s : State) : s.deliver.busy = s.busy := by
  simp [State.busy]

/-- What delivery does, where there is an enabled event: the latch, the drawn latency, the two faults (R117 to R119). -/
theorem deliver_event (s : State) (h : (s.evtFlag && s.evtIE) = true) :
    s.deliver.pending = true ∧
      s.deliver.entrycnt = BitVec.ofNat 16 (s.drawn s.cfg.entry.lo s.cfg.entry.hi) ∧
      s.deliver.draws = s.draws + 1 ∧
      s.deliver.faults = s.faults ||| (if s.busy then FaultCode.tvOverrun.bit else 0) |||
        (if s.pending then FaultCode.tvLostEvent.bit else 0) := by
  unfold State.deliver
  rw [if_pos h]
  dsimp only
  cases s.busy <;> cases hp : s.pending <;> simp [hp, State.drawn]

/-! ### The Frame Clock -/

theorem frameClock_off (s : State) (h : s.armed = false) : s.frameClock = s := by
  simp [State.frameClock, h]

/-- What the Frame Clock does while it is armed (R112). -/
theorem frameClock_on (s : State) (h : s.armed = true) :
    s.frameClock.tcnt = restart s.tcnt s.period ∧
      s.frameClock.evtFlag = decide (restart s.tcnt s.period = 0) := by
  simp [State.frameClock, h]

/-- The restart, where the period is not 0 and the counter has not passed it (R112). -/
theorem restart_toNat (t p : BitVec 16) (hp : p ≠ 0) : (restart t p).toNat = (t.toNat + 1) % p.toNat := by
  have hpos : 0 < p.toNat := by
    rcases Nat.eq_zero_or_pos p.toNat with h | h
    · exact absurd (BitVec.eq_of_toNat_eq (by simpa using h)) hp
    · exact h
  have h1 := Nat.mod_lt (t.toNat + 1) hpos
  have h2 := p.isLt
  simp only [restart, hp, if_false, BitVec.toNat_ofNat]
  exact Nat.mod_eq_of_lt (by omega)

/-! ### The meanings, as one equation each -/

theorem exec_wait (t8 : BitVec 8) (s : State) :
    exec (.wait t8) s = .next (if s.inWindow s.seqPc s.tcnt then s.waitHit t8 else s.waitMiss) := rfl

theorem exec_setc (c3 : Colour) (s : State) :
    exec (.setc c3) s = .next { s.nextPc.run s.cfg.durSetc.ticks with color := c3 } := rfl

theorem exec_tgls (s : State) : exec .tgls s = .next { s.nextPc.run s.cfg.durTgls.ticks with syncC := !s.syncC } := rfl

theorem exec_adv (s : State) :
    exec .adv s = .next (s.advance.afterDraw.nextPc.run (s.drawn s.cfg.adv.lo s.cfg.adv.hi)) := rfl

theorem exec_ret (s : State) : exec .ret s = .next (s.leaveProgram.run s.cfg.durRet.ticks) := rfl

theorem exec_disp (s : State) :
    exec .disp s = .next ({ s.afterDraw with seqPc := select s.phase s.linesRem }.run
      (s.drawn s.cfg.disp.lo s.cfg.disp.hi)) := rfl

/-- The three outcomes of an advance (R84, R85). -/
theorem advance_cases (s : State) :
    ((s.linesRem = 0 ∨ s.cfg.count s.phase < s.linesRem.toNat) ∧ s.advance = s.raise .invariant) ∨
      (s.linesRem = 1 ∧ s.linesRem.toNat ≤ s.cfg.count s.phase ∧
        s.advance = { s with phase := s.phase.succ4, linesRem := BitVec.ofNat 16 (s.cfg.count s.phase.succ4) }) ∨
      (s.linesRem ≠ 0 ∧ s.linesRem ≠ 1 ∧ s.linesRem.toNat ≤ s.cfg.count s.phase ∧
        s.advance = { s with linesRem := s.linesRem - 1 }) := by
  unfold State.advance
  split
  · rename_i h
    exact .inl ⟨h, rfl⟩
  · rename_i h
    rw [not_or, Nat.not_lt] at h
    split
    · rename_i h1
      exact .inr (.inl ⟨h1, h.2, rfl⟩)
    · rename_i h1
      exact .inr (.inr ⟨h.1, h1, h.2, rfl⟩)

/-! ### The Sequencer's state within a tick: the strobe, the pins and delivery leave the Sequencer and the tables alone -/

@[simp] theorem atSequencer_cfg (s : State) : s.atSequencer.cfg = s.cfg := by unfold State.atSequencer; split <;> simp
@[simp] theorem atSequencer_rom (s : State) : s.atSequencer.rom = s.rom := by unfold State.atSequencer; split <;> simp
@[simp] theorem atSequencer_seqPc (s : State) : s.atSequencer.seqPc = s.seqPc := by unfold State.atSequencer; split <;> simp
@[simp] theorem atSequencer_opcnt (s : State) : s.atSequencer.opcnt = s.opcnt := by unfold State.atSequencer; split <;> simp
@[simp] theorem atSequencer_inited (s : State) : s.atSequencer.inited = s.inited := by unfold State.atSequencer; split <;> simp

/-- Busy depends on `SEQ_PC` and `OPCNT` only (R33). -/
theorem busy_congr {s t : State} (hp : t.seqPc = s.seqPc) (ho : t.opcnt = s.opcnt) : t.busy = s.busy := by
  simp [State.busy, hp, ho]

@[simp] theorem atSequencer_busy (s : State) : s.atSequencer.busy = s.busy :=
  busy_congr (atSequencer_seqPc s) (atSequencer_opcnt s)

/-- A selected line program starts at an index of the line programs (R97). -/
theorem select_mem (p : Phase) (r : BitVec 16) : 1 ≤ (select p r).toNat ∧ (select p r).toNat ≤ 26 := by
  unfold select
  split
  · decide
  · split <;> decide

/-- A ROM entry of a configuration is the word of its slot (R71). -/
theorem rom_getElem (c : Config) (k : Nat) (h : k < 32) : c.rom[k] = (c.slots.map Slot.word)[k]'(show k < 32 from h) := rfl

/-! ### Issue, the Sequencer and the step: what a next state can come from -/

theorem andThen_next {o : Host.Outcome State Fault Refusal} {f : State → State} {t : State} (h : andThen o f = .next t) :
    ∃ u, o = .next u ∧ t = f u := by
  cases o with
  | next u => exact ⟨u, rfl, by simpa [andThen] using h.symm⟩
  | fault r => simp [andThen] at h
  | refused r => simp [andThen] at h

/-- Issue runs the decoded micro-op, or abandons the program (R107). -/
theorem issue_cases {w t : State} (h : issue w = .next t) :
    (∃ i, decode (w.romWord w.seqPc) = .op i ∧ exec i w = .next t) ∨
      (∃ e, decode (w.romWord w.seqPc) = .illegal e ∧ t = w.abandon) := by
  unfold issue at h
  split at h
  · exact .inl ⟨_, ‹_›, h⟩
  · exact .inr ⟨_, ‹_›, by simpa using h.symm⟩

/-- The five things the Sequencer can do in a tick (R106 phase 2). -/
theorem sequencer_cases {w t : State} (h : sequencer w = .next t) :
    (w.busy = false ∧ (w.pending && w.gie) = false ∧ t = w) ∨
      (w.busy = false ∧ w.pending = true ∧ w.gie = true ∧ w.entrycnt ≠ 0 ∧ t = { w with entrycnt := w.entrycnt - 1 }) ∨
      (w.enters = true ∧ issue w.enterEvent = .next t) ∨
      (w.busy = true ∧ 0 < w.opcnt ∧ t = { w with opcnt := w.opcnt - 1 }) ∨
      (w.busy = true ∧ w.opcnt = 0 ∧ issue w = .next t) := by
  unfold sequencer at h
  cases hb : w.busy with
  | false =>
    simp only [hb, Bool.not_false, if_true] at h
    cases hp : w.pending <;> cases hg : w.gie
    case true.true =>
      simp only [hp, hg, Bool.and_self, if_true] at h
      split at h
      · exact .inr (.inr (.inl ⟨by simp_all [State.enters], h⟩))
      · exact .inr (.inl ⟨rfl, rfl, rfl, ‹_›, by simpa using h.symm⟩)
    all_goals
      simp only [hp, hg, Bool.and_self, Bool.and_false, Bool.and_true, Bool.false_eq_true, if_false] at h
      exact .inl ⟨rfl, rfl, by simpa using h.symm⟩
  | true =>
    simp only [hb, Bool.not_true, Bool.false_eq_true, if_false] at h
    split at h
    · exact .inr (.inr (.inr (.inl ⟨rfl, ‹_›, by simpa using h.symm⟩)))
    · exact .inr (.inr (.inr (.inr ⟨rfl, by omega, h⟩)))

/-- The three things a step can do: INIT, nothing before INIT, a tick of the running block (R106, R135, R138). -/
theorem step_cases {s t : State} (h : step s = .next t) :
    s.cfg.wellFormed = true ∧
      ((s.strobe = true ∧ s.inited = false ∧ t = s.popStrobe.init.endTick) ∨
        (s.strobe = false ∧ s.inited = false ∧ t = s.popStrobe.endTick) ∨
        (s.inited = true ∧ ∃ u, sequencer s.atSequencer = .next u ∧ t = u.afterSequencer)) := by
  unfold step at h
  split at h
  case isFalse => simp at h
  case isTrue hw =>
    refine ⟨hw, ?_⟩
    obtain ⟨u, hu, rfl⟩ := andThen_next h
    unfold tickWithHost at hu
    cases hs : s.strobe <;> cases hi : s.inited <;> simp only [hs, hi, if_true, Bool.false_eq_true, if_false] at hu
    · simp only [tick, popStrobe_inited, hi, Bool.false_eq_true, if_false] at hu
      injection hu with hu
      exact .inr (.inl ⟨rfl, rfl, by rw [← hu]⟩)
    · simp only [tick, popStrobe_inited, hi, if_true] at hu
      obtain ⟨v, hv, rfl⟩ := andThen_next hu
      exact .inr (.inr ⟨rfl, v, by simpa [State.atSequencer, hs] using hv, rfl⟩)
    · injection hu with hu
      exact .inl ⟨rfl, rfl, by rw [← hu]⟩
    · simp only [tick, raise_inited, popStrobe_inited, hi, if_true] at hu
      obtain ⟨v, hv, rfl⟩ := andThen_next hu
      exact .inr (.inr ⟨rfl, v, by simpa [State.atSequencer, hs] using hv, rfl⟩)

/-- From INIT on a step is the Sequencer's tick, with the Frame Clock and the end of the tick after it (R106). -/
theorem step_inited {s : State} (hw : s.cfg.wellFormed = true) (hi : s.inited = true) :
    step s = andThen (sequencer s.atSequencer) State.afterSequencer := by
  unfold step tickWithHost tick State.atSequencer
  rw [if_pos hw]
  cases hs : s.strobe <;> simp [hi]
  · cases sequencer s.popStrobe.latchPins.deliver <;> rfl
  · cases sequencer (s.popStrobe.raise FaultCode.peReinit).latchPins.deliver <;> rfl

@[simp] theorem ticks_zero (s : State) : ticks 0 s = .next s := rfl

theorem ticks_succ_eq (n : Nat) (s : State) :
    ticks (n + 1) s = match step s with
      | .next t => ticks n t
      | .fault r => .fault r
      | .refused r => .refused r := rfl

/-- The first of `n + 1` ticks. -/
theorem ticks_succ {s t : State} (n : Nat) (h : step s = .next t) : ticks (n + 1) s = ticks n t := by
  rw [ticks_succ_eq, h]

/-- `n + m` ticks are `n` ticks and then `m`. -/
theorem ticks_append {s t : State} (n m : Nat) (h : ticks n s = .next t) : ticks (n + m) s = ticks m t := by
  induction n generalizing s with
  | zero =>
    injection h with h
    rw [h, Nat.zero_add]
  | succ n ih =>
    rw [Nat.succ_add, ticks_succ_eq]
    rw [ticks_succ_eq] at h
    cases hs : step s <;> simp only [hs] at h ⊢
    · exact ih h
    · cases h
    · cases h

end Sys2Proof.Machine
end

