-- ==== Sys2Proof/Laws/PerInstr.lean ====
section
/-! SUPPORT. Statements for all micro-ops, one lemma per constructor. -/

/-- The encoded word of a micro-op matches its own row of the opcode map, in its mask and in its `OP` field (R58, R61). -/
def Sys2Proof.Laws.Encoding.Statement (i : Sys2Proof.Instr) : Prop :=
  i.row.matches (Sys2Proof.encode i) = true ∧ Sys2Proof.opField (Sys2Proof.encode i) = i.row.op

namespace Sys2Proof.Laws.Encoding

theorem wait (t8 : BitVec 8) : Statement (.wait t8) := by
  constructor <;> revert t8 <;> decide

theorem setc (c3 : Colour) : Statement (.setc c3) := by
  constructor <;> revert c3 <;> decide

theorem tgls : Statement .tgls := by
  constructor <;> decide

theorem adv : Statement .adv := by
  constructor <;> decide

theorem ret : Statement .ret := by
  constructor <;> decide

theorem disp : Statement .disp := by
  constructor <;> decide

end Sys2Proof.Laws.Encoding
end

