-- ==== Sys2Proof/Tests/Slice0.lean ====
section
/-! SUPPORT. Tests: expected results are those of 95_test_vectors.md (named by their ids) and of the rules cited. The witnesses at
the end show states and operands that meet the hypotheses of the statements. -/

namespace Sys2Proof.Tests

open Sys2Proof.Machine

/-! ## Helpers -/

/-- The parameter set EX of 95_test_vectors.md. -/
def ex : Config where
  waitB := ⟨3, by decide, by decide⟩
  entry := ⟨2, 6, by decide, by decide⟩
  disp := ⟨2, 3, by decide, by decide, by decide⟩
  adv := ⟨2, 3, by decide, by decide, by decide⟩
  durSetc := ⟨2, by decide, by decide⟩
  durTgls := ⟨2, by decide, by decide⟩
  durRet := ⟨2, by decide, by decide⟩
  outLatColor := 1
  outLatSync := 1

/-- EX with its draws fixed by one-point ranges: e = 4, DISP d = 3, ADV d = 3 (P1 to P4). -/
def exFixed : Config :=
  { ex with
    entry := ⟨4, 4, by decide, by decide⟩
    disp := ⟨3, 3, by decide, by decide, by decide⟩
    adv := ⟨3, 3, by decide, by decide, by decide⟩ }

/-- Power-on with a configuration. -/
def powerOn (c : Config) : State := { State.reset with cfg := c, rom := c.rom, targetAbs := c.targetAbs }

/-- The block right after INIT. -/
def live (c : Config) : State := (powerOn c).popStrobe.init.endTick

/-- The block inside a line program at an index and a counter value, the micro-op there about to issue. -/
def at_ (c : Config) (pc : RomIndex) (n : BitVec 16) : State := { live c with seqPc := pc, tcnt := n }

/-- A test of the next state's fields. -/
def gives (o : Host.Outcome State Fault Refusal) (p : State → Bool) : Bool :=
  match o with
  | .next t => p t
  | .fault _ => false
  | .refused _ => false

/-! ## Well-formedness: an ill-formed term for each check of R11 (and log 2) -/

theorem test_ex_wellFormed : ex.wellFormed = true := by decide
theorem test_default_wellFormed : Config.default.wellFormed = true := by decide
theorem test_illformed_lines : { ex with vBpLines := 0 }.wellFormed = false := by decide
theorem test_illformed_sum : { ex with hFullLineNbTicks := 508 }.wellFormed = false := by decide
theorem test_illformed_tick_zero : { ex with hSyncTicks := 0, hFullLineNbTicks := 446 }.wellFormed = false := by decide
theorem test_illformed_bandW : { ex with hActiveTicks := 7, hFullLineNbTicks := 108 }.wellFormed = false := by decide
theorem test_illformed_activeEnd : { ex with hFpTicks := 0, hFullLineNbTicks := 497 }.activeEndsInLine = false := by decide
theorem test_illformed_gap : { ex with hActiveTicks := 2048, hFullLineNbTicks := 2149 }.wellFormed = false := by decide
theorem test_illformed_count : { ex with vActiveLines := 65536 }.wellFormed = false := by decide
theorem test_illformed_period : { ex with hFpTicks := 65100, hFullLineNbTicks := 65597 }.wellFormed = false := by decide
theorem test_illformed_bands : { ex with nBands := 4 }.wellFormed = false := by decide
theorem test_illformed_step : step (powerOn { ex with vBpLines := 0 }) = .refused .peBadConfig := rfl
theorem test_every_instr_wellFormed : Instr.wellFormed (.wait 255) = true ∧ Instr.wellFormed (.setc 7) = true := by decide

/-! ## Decoding: words written out from the encodings of R61 (vectors D-1 to D-21) -/

theorem test_decode_wait : decode 0b0001000001011011 = .op (.wait 91) := by decide
theorem test_decode_setc : decode 0b0010000000000110 = .op (.setc 6) := by decide
theorem test_decode_tgls : decode 0b0011000000000000 = .op .tgls := by decide
theorem test_decode_adv : decode 0b0100000000000000 = .op .adv := by decide
theorem test_decode_ret : decode 0b0101000000000000 = .op .ret := by decide
theorem test_decode_disp : decode 0b0110000000000000 = .op .disp := by decide
theorem test_decode_D4 : decode 0x1100 = .illegal (.mustBeZero 1) := by decide
theorem test_decode_D7_D8 : decode 0x2008 = .illegal (.mustBeZero 2) ∧ decode 0x2800 = .illegal (.mustBeZero 2) := by decide
theorem test_decode_D10 : decode 0x3001 = .illegal (.mustBeZero 3) := by decide
theorem test_decode_D12 : decode 0x4800 = .illegal (.mustBeZero 4) := by decide
theorem test_decode_D14 : decode 0x5010 = .illegal (.mustBeZero 5) := by decide
theorem test_decode_D16 : decode 0x6001 = .illegal (.mustBeZero 6) := by decide
theorem test_decode_reserved :
    decode 0x0000 = .illegal (.reservedOp 0) ∧ decode 0x0FFF = .illegal (.reservedOp 0) ∧
      decode 0x7000 = .illegal (.reservedOp 7) ∧ decode 0xF000 = .illegal (.reservedOp 15) := by decide
theorem test_decodeTableWord : decodeTableWord 16 0x1023 = some (.wait 35) ∧ decodeTableWord 16 0x3001 = none := by decide
theorem test_rows_disjoint : opcodeRows.Pairwise (fun r r' => (r.mask &&& r'.mask) &&& (r.matchBits ^^^ r'.matchBits) ≠ 0) := by
  decide

/-! ## Assembler (AS-1 to AS-6) -/

theorem test_asm_AS1 : assemble 507 (.wait 291) = some ⟨0x1023, some 291⟩ := by decide
theorem test_asm_AS2 : assemble 507 (.wait 497) = some ⟨0x10F1, some 497⟩ := by decide
theorem test_asm_AS3 : assemble 507 (.wait 507) = none := by decide
theorem test_asm_AS4 : (parseAsm ['S', 'E', 'T', 'C', ' ', 'c', 'y', 'a', 'n']).bind (assemble 507) = some ⟨0x2006, none⟩ := by
  decide
theorem test_asm_colours :
    [ColourName.black, .red, .green, .yellow, .blue, .magenta, .cyan, .white].map ColourName.code = [0, 1, 2, 3, 4, 5, 6, 7] := by
  decide
theorem test_asm_AS5 : assemble 507 .blank = some ⟨0x2000, none⟩ := by decide
theorem test_asm_AS6 : assemble 507 (.setcCode 8) = none := by decide
theorem test_asm_text : parseAsm ['W', 'A', 'I', 'T', ' ', '2', '9', '1', ' ', ';', ' ', 'x'] = some (.wait 291) := by decide

/-! ## The ROM (R71), by its rows 1, 9, 17, 22 -/

theorem test_rom_rows : ex.rom[1] = 0x105B ∧ ex.rom[9] = 0x1023 ∧ ex.rom[17] = 0x10F1 ∧ ex.rom[22] = 0x3000 := by decide
theorem test_rom_targets : ex.targetAbs[9] = some 291 ∧ ex.targetAbs[17] = some 497 ∧ ex.targetAbs[22] = none := by decide

/-! ## WAIT -/

/-- W-4: T = 291, n = 250: delta 41, d 44. -/
theorem test_wait_W4 :
    gives (exec (.wait 35) (at_ ex 9 250)) (fun t => t.opcnt == 43 && t.seqPc == 10 && t.faults == 0) = true := by decide
/-- W-8: T - n = 256 is out of window; W-9: passed by one. -/
theorem test_wait_W8_W9 :
    gives (exec (.wait 35) (at_ ex 9 35)) (fun t => t.seqPc == 10 && t.faults == 2) = true ∧
      gives (exec (.wait 35) (at_ ex 9 292)) (fun t => t.faults == 2) = true := by decide

/-! ## ADV -/

/-- A-2: (3, 1) to (0, 2); A-5: (1, 1) to (2, 480). -/
theorem test_adv_A2_A5 :
    gives (exec .adv { at_ exFixed 23 96 with phase := .frontPorch, linesRem := 1 })
      (fun t => t.phase == .syncPulse && t.linesRem == 2 && t.seqPc == 24 && t.opcnt == 2) = true ∧
    gives (exec .adv { at_ exFixed 25 7 with phase := .backPorch, linesRem := 1 })
      (fun t => t.phase == .activeVideo && t.linesRem == 480) = true := by decide
/-- A-9: (0, 3) and A-10: (2, 0) raise INVARIANT and stay. -/
theorem test_adv_A9_A10 :
    gives (exec .adv { at_ exFixed 25 7 with phase := .syncPulse, linesRem := 3 })
      (fun t => t.linesRem == 3 && t.faults == 0x80 && t.seqPc == 26) = true ∧
    gives (exec .adv { at_ exFixed 25 7 with phase := .activeVideo, linesRem := 0 })
      (fun t => t.linesRem == 0 && t.faults == 0x80) = true := by decide

/-! ## DISP, SETC, TGLS, RET -/

/-- P-2, P-3, P-6, P-7. -/
theorem test_disp_P :
    select .activeVideo 1 = 1 ∧ select .frontPorch 1 = 21 ∧ select .syncPulse 2 = 25 ∧ select .backPorch 1 = 25 := by decide
theorem test_disp_opcnt : gives (exec .disp (at_ exFixed 0 4)) (fun t => t.seqPc == 25 && t.opcnt == 2) = true := by decide
/-- C-1. -/
theorem test_setc_C1 :
    gives (exec (.setc 6) { at_ ex 10 294 with color := 4 })
      (fun t => t.color == 6 && t.seqPc == 11 && t.opcnt == 1) = true := by decide
/-- T-1. -/
theorem test_tgls_T1 :
    gives (exec .tgls { at_ ex 22 94 with syncC := true })
      (fun t => t.syncC == false && t.seqPc == 23 && t.opcnt == 1) = true := by decide
/-- R-1. -/
theorem test_ret_R1 : gives (exec .ret (at_ ex 20 505)) (fun t => t.seqPc == 31 && t.opcnt == 1) = true := by decide

/-! ## Events and the tick step -/

/-- E-2, first tick: the drawn latency 4 is decremented to 3 at L. -/
theorem test_event_E2 :
    gives (step { live exFixed with evtFlag := true })
      (fun t => t.pending && t.entrycnt == 3 && t.faults == 0 && t.tcnt == 1) = true := by decide
/-- E-1: latency 0, DISP issues at L. -/
theorem test_event_E1 :
    gives (step { live { exFixed with entry := ⟨0, 0, by decide, by decide⟩ } with evtFlag := true })
      (fun t => !t.pending && t.seqPc == 25 && t.faults == 0) = true := by decide
/-- E-3: the RET still runs: TV_OVERRUN, latched. -/
theorem test_event_E3 :
    gives (step { live exFixed with evtFlag := true, seqPc := 20, opcnt := 1 })
      (fun t => t.pending && t.entrycnt == 4 && t.faults == 4) = true := by decide
/-- E-4: an event is pending: TV_LOST_EVENT, latency reloaded and decremented. -/
theorem test_event_E4 :
    gives (step { live exFixed with evtFlag := true, pending := true, entrycnt := 3 })
      (fun t => t.pending && t.entrycnt == 3 && t.faults == 8) = true := by decide
/-- F-1, F-2. -/
theorem test_clock_F1_F2 :
    gives (step { live ex with tcnt := 505 }) (fun t => t.tcnt == 506 && !t.evtFlag) = true ∧
      gives (step { live ex with tcnt := 506 }) (fun t => t.tcnt == 0 && t.evtFlag) = true := by decide
/-- P7: a corrupted ROM entry raises ILLEGAL_OP and frees the Sequencer. -/
theorem test_illegal_P7 :
    gives (step { at_ ex 2 94 with rom := ex.rom.set 2 0x2008 })
      (fun t => t.faults == 0x40 && t.seqPc == 31 && t.opcnt == 0 && t.color == 0) = true := by decide

/-! ## INIT and the pins -/

/-- I-1. -/
theorem test_init_I1 :
    gives (step (powerOn ex))
      (fun t => t.phase == .frontPorch && t.linesRem == 11 && t.color == 0 && t.syncC && t.tcnt == 0 && t.period == 507 &&
        t.tctrl == 7 && t.istat == 1 && t.seqPc == 31 && t.inited && t.faults == 0) = true := by decide
/-- I-2. -/
theorem test_init_I2 :
    gives (step { live ex with hostInit := [true] }) (fun t => t.faults == 0x20 && t.tcnt == 1 && t.linesRem == 11) = true := by
  decide
/-- I-3. -/
theorem test_init_I3 : gives (step { powerOn ex with hostInit := [] }) (fun t => !t.inited && !t.armed) = true := by decide
/-- I-4: one tick after τ_init + 1, RGB = 0 and VSYNC = 1; at τ_init + 1 they are still X, and HSYNC is 0. -/
theorem test_pins_I4 :
    (live ex).pins = ⟨none, none, some false⟩ ∧
      gives (step (live ex)) (fun t => t.pins == ⟨some 0, some true, some false⟩) = true := by decide
/-- SD-3: HSYNC is 0 at offset 60 and 1 at 61. -/
theorem test_hsync_SD3 :
    ({ live ex with tcnt := 60 } : State).hsync = some false ∧ ({ live ex with tcnt := 61 } : State).hsync = some true := by decide
/-- After a fault nothing is guaranteed (R111). -/
theorem test_observe_fault : ((live ex).raise .tvOverrun).observe = ⟨none, none, none⟩ := by decide

/-! ## withFetchWord: the very next step runs the word, from reset -/

theorem test_fetch_setc : gives (step (State.reset.withFetchWord 16 0x2005)) (fun t => t.color == 5 && t.seqPc == 1) = true := by
  decide
theorem test_fetch_ret : gives (step (State.reset.withFetchWord 16 0x5000)) (fun t => t.seqPc == 31) = true := by decide

/-! ## Witnesses: states and operands that meet the hypotheses of the statements, named after them -/

theorem witness_DecodeEncodeRoundTrip : Instr.wellFormed (.wait 255) = true ∧ decode 0x10FF = .op (.wait 255) := by decide
theorem witness_DecodeFollowsOpcodeMap :
    Instr.row .tgls ∈ opcodeRows ∧ (Instr.row .tgls).matches 0x3000 = true ∧ (∀ r ∈ opcodeRows, r.matches 0x3001 = false) ∧
      decode 0x1000 = .op (.wait 0) ∧ decode 0x2007 = .op (.setc 7) := by decide
theorem witness_DecoderIsTotalByOpcode :
    (0x10FF#16).toNat / 4096 = 1 ∧ (0x10FF#16).toNat / 256 % 16 = 0 ∧ (0x1100#16).toNat / 256 % 16 ≠ 0 ∧
      (0x2007#16).toNat / 4096 = 2 ∧ (0x2007#16).toNat / 8 % 512 = 0 ∧ (0x2008#16).toNat / 8 % 512 ≠ 0 ∧
      (0x6000#16).toNat / 4096 = 6 ∧ (0x6000#16).toNat % 4096 = 0 ∧ (0x6FFF#16).toNat % 4096 ≠ 0 ∧
      (0x0FFF#16).toNat / 4096 = 0 ∧ 7 ≤ (0x7000#16).toNat / 4096 := by decide
theorem witness_AssemblerWordsAndRefusals : 506 < 507 ∧ 507 ≤ 507 ∧ 7 < 8 ∧ 8 ≤ 8 := by decide
theorem ex_defaultTables : ex.defaultTables := by unfold Config.defaultTables; decide
theorem witness_DefaultRomIsTheTable : ex.defaultTables ∧ ex.bandColors = #v[0, 1, 2, 4, 6, 3, 5, 7] :=
  ⟨ex_defaultTables, by decide⟩
theorem witness_TargetsMatchTheirWaits :
    ex.wellFormed = true ∧ ex.targetAbs[(15 : Fin 32)] = some 441 ∧ ex.targetAbs[(17 : Fin 32)] = some 497 ∧
      (15 : Fin 32) < 17 ∧ (17 : Fin 32).val ≤ 20 ∧ decode ex.rom[(21 : Fin 32)] = .op (.wait 91) := by decide
/-- T - n at 0, 255, 256 and -1 (W-6 to W-9). -/
theorem witness_WaitStallsOrMisses :
    (at_ ex 9 291).target (at_ ex 9 291).seqPc = some 291 ∧ ((291#16).toNat ≤ 291 ∧ 291 - (291#16).toNat ≤ 255) ∧
      ((36#16).toNat ≤ 291 ∧ 291 - (36#16).toNat ≤ 255) ∧ ¬((35#16).toNat ≤ 291 ∧ 291 - (35#16).toNat ≤ 255) ∧
      ¬((292#16).toNat ≤ 291 ∧ 291 - (292#16).toNat ≤ 255) := by decide
theorem witness_WaitWithoutTargetMisses : (at_ ex 0 4).target (at_ ex 0 4).seqPc = none := by decide
theorem witness_WindowAndRemainingDistance :
    (at_ ex 9 36).target 9 = some 291 ∧ (at_ ex 9 36).inWindow 9 36 = true ∧ (35#8).toNat = 291 % 256 := by decide
theorem witness_WaitCostIsAffine :
    (at_ ex 1 7).inWindow (at_ ex 1 7).seqPc (at_ ex 1 7).tcnt = true ∧
      ∃ t, exec (.wait 91) (at_ ex 1 7) = .next t := ⟨by decide, _, rfl⟩
theorem witness_TglsInvertsSync : ∃ t u, exec .tgls (live ex) = .next t ∧ exec .tgls t = .next u := ⟨_, _, rfl, rfl⟩
/-- `LINES_REM` at 0, above the count, at 1, at 2 and at the count. -/
theorem witness_AdvAdvancesTheLine :
    ({ live ex with linesRem := 0 } : State).linesRem.toNat = 0 ∧
      ({ live ex with linesRem := 12 } : State).cfg.count (live ex).phase < (12#16).toNat ∧
      (1#16).toNat = 1 ∧ 1 ≤ (live ex).cfg.count (live ex).phase ∧ 2 ≤ (2#16).toNat ∧
      (11#16).toNat ≤ (live ex).cfg.count (live ex).phase := by decide
theorem witness_EdgeProgramOnBoundaryLines : ∃ t, exec .disp (live ex) = .next t := ⟨_, rfl⟩
theorem witness_MicroOpFrame : ∃ t, exec .ret (live ex) = .next t ∧ Element.faults ∉ elementsWritten .ret :=
  ⟨_, rfl, by decide⟩
theorem witness_LineCountExhaustion :
    (live ex).cfg.wellFormed = true ∧ (live ex).linesRem.toNat = (live ex).cfg.count (live ex).phase ∧
      10 < (live ex).cfg.count (live ex).phase := by decide
theorem witness_PhaseCycleOfAField :
    (live ex).linesLegal ∧ ({ live ex with phase := .syncPulse, linesRem := 2 } : State).linesRem.toNat = ex.vSyncLines ∧
      523 < ex.vFullLines ∧ ex.defaultTables :=
  ⟨by unfold State.linesLegal; decide, by decide, by decide, ex_defaultTables⟩
theorem witness_StepRunsDecodedMicroOp :
    (at_ ex 2 94).cfg.wellFormed = true ∧ ∃ w, (at_ ex 2 94).issuing = some w ∧ decode (w.romWord w.seqPc) = .op (.setc 0) :=
  ⟨by decide, _, rfl, by decide⟩
theorem witness_IllegalWordAbandonsTheProgram :
    (at_ ex 27 94).cfg.wellFormed = true ∧ ∃ w e, (at_ ex 27 94).issuing = some w ∧ decode (w.romWord w.seqPc) = .illegal e :=
  ⟨by decide, _, _, rfl, rfl⟩
/-- A running micro-op, an entry countdown, and an idle Sequencer. -/
theorem witness_StepWithoutIssue :
    (({ at_ ex 2 90 with opcnt := 4 } : State).issuing = none ∧ ({ at_ ex 2 90 with opcnt := 4 } : State).atSequencer.busy = true) ∧
      (({ live ex with pending := true, entrycnt := 3 } : State).issuing = none ∧
        ({ live ex with pending := true, entrycnt := 3 } : State).atSequencer.busy = false) ∧
      ((live ex).issuing = none ∧ (live ex).atSequencer.pending = false ∧ (live ex).inited = true) := by decide
theorem witness_FrameClockCounts :
    (∃ t, step (live ex) = .next t) ∧ (live ex).armed = true ∧ (live ex).period ≠ 0 ∧
      (∃ t, step { powerOn ex with hostInit := [] } = .next t) ∧ ({ powerOn ex with hostInit := [] } : State).strobe = false :=
  ⟨⟨_, rfl⟩, by decide, by decide, ⟨_, rfl⟩, by decide⟩
/-- Busy; pending; idle with a latency of 4 and of 0; idle with `GIE` off. -/
theorem witness_EventDelivery :
    (∃ t, step { live exFixed with evtFlag := true, seqPc := 20, opcnt := 1 } = .next t) ∧
      ({ live exFixed with evtFlag := true, seqPc := 20, opcnt := 1 } : State).busy = true ∧
      (∃ t, step { live exFixed with evtFlag := true, pending := true } = .next t) ∧
      ({ live exFixed with evtFlag := true } : State).busy = false ∧ (live exFixed).evtIE = true ∧ (live exFixed).gie = true ∧
      exFixed.entry.lo ≤ 4 ∧
      (∃ t, step { live { exFixed with entry := ⟨0, 0, by decide, by decide⟩ } with evtFlag := true } = .next t) ∧
      (∃ t, step { live exFixed with evtFlag := true, gie := false } = .next t) :=
  ⟨⟨_, rfl⟩, by decide, ⟨_, rfl⟩, by decide, by decide, by decide, by decide, ⟨_, rfl⟩, ⟨_, rfl⟩⟩
theorem witness_DeliveryFaultsNeedTheirCause :
    gives (step { live exFixed with evtFlag := true, seqPc := 20, opcnt := 1, pending := true })
      (fun t => t.raised .tvOverrun && t.raised .tvLostEvent) = true ∧
      (live exFixed).raised .tvOverrun = false ∧ (live exFixed).raised .tvLostEvent = false := by decide
theorem witness_EventEntry :
    ({ live ex with pending := true } : State).atSequencer.busy = false ∧
      ({ live ex with pending := true } : State).atSequencer.gie = true ∧
      ({ live ex with pending := true } : State).atSequencer.entrycnt = 0 ∧ (live ex).atSequencer.pending = false := by decide
theorem witness_EntryAfterDrawnLatency :
    ({ live ex with evtFlag := true } : State).inited = true ∧ ({ live ex with evtFlag := true } : State).pending = false ∧
      (live ex).tcnt = 0 ∧ (live ex).seqPc = 31 ∧ (live ex).opcnt = 0 ∧ ex.entry.hi < (live ex).period.toNat := by decide
theorem witness_WaitExitIsDeterministic :
    (at_ ex 9 36).inited = true ∧ (at_ ex 9 36).armed = true ∧ (at_ ex 9 36).period ≠ 0 ∧ (at_ ex 9 36).seqPc ≠ 31 ∧
      (at_ ex 9 36).opcnt = 0 ∧ decode ((at_ ex 9 36).romWord 9) = .op (.wait 35) ∧ (at_ ex 9 36).target 9 = some 291 ∧
      (35#8).toNat = 291 % 256 ∧ (at_ ex 9 36).tcnt.toNat ≤ 291 ∧ 291 - (at_ ex 9 36).tcnt.toNat ≤ 255 := by decide
theorem witness_ARunHasNoEnd : (powerOn ex).cfg.wellFormed = true := by decide
theorem witness_IllFormedConfigurationIsRefused : ¬{ ex with vBpLines := 0 }.conditionsOfR11 := by
  intro h
  exact absurd h.1.2.1 (by decide)
theorem ex_conditionsOfR11 : ex.conditionsOfR11 := by
  refine ⟨by decide, by decide, by decide, by decide, by decide, ?_, by decide⟩
  intro p
  cases p <;> decide
theorem witness_WellFormedConfigurationRuns :
    ex.conditionsOfR11 ∧ ex.nBands = 8 ∧ { ex with nBands := 4 }.nBands ≠ 8 ∧ ex.defaultTables :=
  ⟨ex_conditionsOfR11, by decide, by decide, ex_defaultTables⟩
theorem witness_WellFormedConfigurationRuns_bands : { ex with nBands := 9, hActiveTicks := 405, hFullLineNbTicks := 506 }.conditionsOfR11 := by
  refine ⟨by decide, by decide, by decide, by decide, by decide, ?_, by decide⟩
  intro p
  cases p <;> decide
theorem witness_RomAndTablesAreReadOnly : ∃ t, ticks 1 (powerOn ex) = .next t := ⟨_, rfl⟩
theorem witness_FaultsAreSticky :
    (∃ t, step ((powerOn ex).raise .peReinit) = .next t) ∧ ((powerOn ex).raise .peReinit).raised .peReinit = true ∧
      ((powerOn ex).raise .peReinit).faults ≠ 0 ∧ (powerOn ex).cfg.wellFormed = true :=
  ⟨⟨_, rfl⟩, by decide, by decide, by decide⟩
theorem witness_PhaseMachineChangedOnlyByAdv :
    gives (step (at_ exFixed 25 7)) (fun t => t.linesRem != (at_ exFixed 25 7).linesRem) = true ∧
      (at_ exFixed 25 7).inited = true := by decide
theorem witness_IdleIndexIsNeverFetched :
    (∃ t, step (live ex) = .next t) ∧ ∃ t, step { live ex with rom := (live ex).rom.set 31 0x2007 } = .next t :=
  ⟨⟨_, rfl⟩, ⟨_, rfl⟩⟩
theorem witness_PowerOnIsInert :
    ({ powerOn ex with hostInit := [] } : State).inited = false ∧ ({ powerOn ex with hostInit := [] } : State).strobe = false ∧
      (powerOn ex).armed = false ∧ (powerOn ex).cfg.wellFormed = true := by decide
theorem witness_InitWrites :
    (powerOn ex).inited = false ∧ (powerOn ex).strobe = true ∧ ex.defaultTables ∧ ∃ t, step (powerOn ex) = .next t :=
  ⟨by decide, by decide, ex_defaultTables, _, rfl⟩
theorem witness_SecondInitOnlyRaises :
    ({ live ex with hostInit := [true] } : State).inited = true ∧ ({ live ex with hostInit := [true] } : State).strobe = true := by
  decide
theorem witness_PinsFollowTheirRegisters :
    (live ex).inited = true ∧ (powerOn ex).inited = false ∧ (powerOn ex).strobe = true ∧ 0 < ex.outLatColor ∧
      0 < ex.outLatSync := by decide
/-- The compare value 61 from both sides, and `UNDRIVEN`. -/
theorem witness_HsyncFollowsTheCounter :
    ex.hsyncSource = .timerCompare ∧ (live ex).armed = true ∧ (60#16).toNat < ex.hSyncTicks ∧
      ¬((live ex).armed = true ∧ (61#16).toNat < ex.hSyncTicks) ∧
      { ex with hsyncSource := .undriven }.hsyncSource = .undriven := by decide
theorem ex_lineBudget : ex.lineBudget := by unfold Config.lineBudget; decide
theorem ex_live : (live ex).live := by unfold State.live State.linesLegal; decide
theorem witness_LegalIsKept : (live ex).Legal ∧ (powerOn ex).Legal ∧ ∃ t, step (live ex) = .next t :=
  ⟨⟨by decide, fun h => absurd h (by decide), fun _ => ex_live, by decide, by decide, by decide⟩,
    ⟨by decide, fun _ => by unfold State.quiet; decide, fun h => absurd h (by decide), by decide, by decide, by decide⟩, _, rfl⟩
theorem witness_OpcntFitsUntilAMiss : (live ex).opcnt < 65536 ∧ ∃ t, step (live ex) = .next t := ⟨by decide, _, rfl⟩
theorem witness_FirstRaiseRecordsFaults :
    ((live ex).firstRaise = none ↔ (live ex).faults = 0) ∧
      ((live ex).raise .tvOverrun).firstRaise ≠ none ∧ ((live ex).raise .tvOverrun).faults ≠ 0 ∧
      ∃ t, step (live ex) = .next t := ⟨by decide, by decide, by decide, _, rfl⟩
theorem witness_CounterAndEventsFromInit :
    (powerOn ex).cfg.wellFormed = true ∧ (powerOn ex).inited = false ∧ (powerOn ex).strobe = true := by decide
theorem ex_poweredOn : (powerOn ex).PoweredOn := by unfold State.PoweredOn State.quiet; decide
theorem witness_InitStartsTheSchedule :
    (powerOn ex).PoweredOn ∧ ex.lineBudget ∧ ex.activeStart ≤ 255 ∧ ∃ t, step (powerOn ex) = .next t :=
  ⟨ex_poweredOn, ex_lineBudget, by decide, _, rfl⟩
theorem witness_ScheduleIsKept : (live ex).OnSchedule ∧ ∃ t, step (live ex) = .next t :=
  ⟨⟨by decide, ex_lineBudget, by decide, rfl, rfl, by decide, ex_live, by decide, by decide, .inl (by decide)⟩, _, rfl⟩
/-- On schedule inside a line program: SETC at index 2, due at 91 + 3. -/
theorem at_on_schedule : (at_ ex 2 94).OnSchedule :=
  ⟨by decide, ex_lineBudget, by decide, rfl, rfl, by decide, by unfold State.live State.linesLegal; decide, by decide, by decide,
    .inr (.inr ⟨by decide, by decide, by decide, rfl⟩)⟩
/-- On the program, with a WAIT that is missed, a fault raised before, and a strobe to come; the last index of `P_PLAIN`. -/
theorem witness_IllegalWord_onProgram :
    ({ at_ ex 9 292 with faults := 4, hostInit := [true] } : State).OnProgram ∧
      ({ at_ ex 9 292 with faults := 4, hostInit := [true] } : State).raised .illegalOp = false ∧
      (∃ w, ({ at_ ex 9 292 with faults := 4, hostInit := [true] } : State).issuing = some w) ∧ (at_ ex 26 92).OnProgram :=
  ⟨⟨by decide, rfl, .inr (by decide), fun h => absurd h (by decide)⟩, by decide, ⟨_, rfl⟩,
    ⟨by decide, rfl, .inr (by decide), fun h => absurd h (by decide)⟩⟩
/-- Before INIT and from INIT on. -/
theorem witness_OnProgramIsKept :
    (powerOn ex).OnProgram ∧ (∃ t, step (powerOn ex) = .next t) ∧ (at_ ex 1 60).OnProgram ∧ ∃ t, step (at_ ex 1 60) = .next t :=
  ⟨⟨by decide, rfl, .inl rfl, fun _ => by decide⟩, ⟨_, rfl⟩,
    ⟨by decide, rfl, .inr (by decide), fun h => absurd h (by decide)⟩, _, rfl⟩
theorem witness_OutputsWrittenOnlyAfterWaits :
    (at_ ex 4 144).issued = some (.setc 1) ∧ (∃ t, step (at_ ex 4 144) = .next t ∧ t.color ≠ (at_ ex 4 144).color) ∧
      (at_ ex 2 94).OnSchedule ∧ (∃ w, (at_ ex 2 94).issuing = some w) ∧ (at_ ex 2 94).issued = some (.setc 0) ∧
      decode ex.rom[(22 : Fin 32)] = .op .tgls :=
  ⟨by decide, ⟨_, rfl, by decide⟩, at_on_schedule, ⟨_, rfl⟩, by decide, by decide⟩
theorem witness_NoFaultWithinTheLineBudget : (powerOn ex).PoweredOn ∧ ex.lineBudget ∧ ex.activeStart ≤ 255 :=
  ⟨ex_poweredOn, ex_lineBudget, by decide⟩
theorem witness_WaveformFromInit : (powerOn ex).PoweredOn ∧ (powerOn ex).cfg.lineBudget ∧ (powerOn ex).cfg.activeStart ≤ 255 :=
  ⟨ex_poweredOn, ex_lineBudget, by decide⟩
theorem witness_PinWaveformFromInit :
    (powerOn ex).PoweredOn ∧ ex.lineBudget ∧ ex.activeStart ≤ 255 ∧ ex.outLatColor ≤ 1 ∧ ex.outLatSync ≤ 1 ∧
      ex.hsyncSource = .timerCompare := ⟨ex_poweredOn, ex_lineBudget, by decide⟩
theorem witness_PinsDoNotDependOnDraws :
    (powerOn ex).PoweredOn ∧ ({ powerOn ex with draws := 7, color := 5, linesRem := 9 } : State).PoweredOn ∧
      ({ powerOn ex with draws := 7, color := 5, linesRem := 9 } : State).cfg = (powerOn ex).cfg ∧ ex.lineBudget :=
  ⟨ex_poweredOn, by unfold State.PoweredOn State.quiet; decide, rfl, ex_lineBudget⟩
/-- An idle state; a RET about to elapse, after an overrun; an event that enters. -/
theorem witness_ContextChanges :
    (live ex).OnProgram ∧ (live ex).inited = true ∧ (live ex).context = .idle ∧ (∃ t, step (live ex) = .next t) ∧
      ({ at_ ex 31 506 with opcnt := 1, faults := 4 } : State).OnProgram ∧
      ({ at_ ex 31 506 with opcnt := 1, faults := 4 } : State).context = .handler ∧
      ({ live ex with pending := true, tcnt := 5 } : State).OnProgram ∧
      ({ live ex with pending := true, tcnt := 5 } : State).atSequencer.enters = true :=
  ⟨⟨by decide, rfl, .inl rfl, fun _ => by decide⟩, by decide, by decide, ⟨_, rfl⟩,
    ⟨by decide, rfl, .inl rfl, fun h => absurd h (by decide)⟩, by decide,
    ⟨by decide, rfl, .inl rfl, fun _ => by decide⟩, by decide⟩

end Sys2Proof.Tests
end

/-! Proofs: the configuration check (00_scope.md R11), and what it refuses. -/
section
namespace Sys2Proof

/-! ### The checks of R11, each as the condition it decides -/

theorem Config.linesPositive_iff (c : Config) :
    c.linesPositive = true ↔ 1 ≤ c.vSyncLines ∧ 1 ≤ c.vBpLines ∧ 1 ≤ c.vActiveLines ∧ 1 ≤ c.vFpLines := by
  simp only [Config.linesPositive, Bool.and_eq_true, decide_eq_true_eq, and_assoc]

theorem Config.ticksSum_iff (c : Config) :
    c.ticksSum = true ↔
      1 ≤ c.hSyncTicks ∧ 1 ≤ c.hBpTicks ∧ 1 ≤ c.hActiveTicks ∧ 1 ≤ c.hFpTicks ∧
        c.hFullLineNbTicks = c.hSyncTicks + c.hBpTicks + c.hActiveTicks + c.hFpTicks := by
  simp only [Config.ticksSum, Bool.and_eq_true, decide_eq_true_eq, and_assoc]

theorem Config.bandWPositive_iff (c : Config) : c.bandWPositive = true ↔ 1 ≤ c.bandW := decide_eq_true_iff

theorem Config.activeEndsInLine_iff (c : Config) :
    c.activeEndsInLine = true ↔ c.activeEnd < c.hFullLineNbTicks := decide_eq_true_iff

theorem Config.periodFits_iff (c : Config) : c.periodFits = true ↔ c.hFullLineNbTicks < 65536 := decide_eq_true_iff

theorem Config.eightBands_iff (c : Config) : c.eightBands = true ↔ c.nBands = 8 := decide_eq_true_iff

theorem Config.linesFit_iff (c : Config) : c.linesFit = true ↔ ∀ p : Phase, c.count p < 65536 := by
  simp only [Config.linesFit, Bool.and_eq_true, decide_eq_true_eq, and_assoc]
  constructor
  · rintro ⟨hsync, hbp, hactive, hfp⟩ p
    cases p
    case syncPulse => exact hsync
    case backPorch => exact hbp
    case activeVideo => exact hactive
    case frontPorch => exact hfp
  · exact fun h => ⟨h .syncPulse, h .backPorch, h .activeVideo, h .frontPorch⟩

/-- The bands lie in order on the line (R9). -/
theorem Config.bandStart_le_succ (c : Config) (k : Nat) : c.bandStart k ≤ c.bandStart (k + 1) :=
  Nat.add_le_add_left (Nat.mul_le_mul_right _ (Nat.le_succ k)) _

/-- The check takes every gap in both directions. Between two bands only the later one's lead counts, because the band starts
ascend; `ACTIVE_END` may lie on either side of the last band start, where the number of bands is free. -/
theorem Config.targetGaps_iff (c : Config) :
    c.targetGaps = true ↔
      (∀ k, k < 7 → c.bandStart (k + 1) ≤ c.bandStart k + 255) ∧ c.activeEnd ≤ c.bandStart 7 + 255 ∧
        c.bandStart 7 ≤ c.activeEnd + 255 := by
  have hmono := c.bandStart_le_succ
  simp only [Config.targetGaps, Config.activeTargets, Config.edgeTargets, gapsAtMost255, Bool.and_eq_true, decide_eq_true_eq,
    Nat.sub_le_iff_le_add', and_true]
  constructor
  · rintro ⟨⟨h0, -⟩, ⟨h1, -⟩, ⟨h2, -⟩, ⟨h3, -⟩, ⟨h4, -⟩, ⟨h5, -⟩, ⟨h6, -⟩, hend, hlast⟩
    refine ⟨fun k hk => ?_, hend, hlast⟩
    interval_cases k <;> assumption
  · rintro ⟨hgap, hend, hlast⟩
    have hpair (k : Nat) (hk : k < 7) :
        c.bandStart (k + 1) ≤ c.bandStart k + 255 ∧ c.bandStart k ≤ c.bandStart (k + 1) + 255 :=
      ⟨hgap k hk, (hmono k).trans (Nat.le_add_right _ _)⟩
    exact ⟨hpair 0 (by decide), hpair 1 (by decide), hpair 2 (by decide), hpair 3 (by decide), hpair 4 (by decide),
      hpair 5 (by decide), hpair 6 (by decide), hend, hlast⟩

/-- What the model accepts: the seven conditions of R11, and 8 bands (log 2). -/
theorem Config.wellFormed_iff (c : Config) : c.wellFormed = true ↔ c.conditionsOfR11 ∧ c.nBands = 8 := by
  simp only [Config.wellFormed, Config.conditionsOfR11, Bool.and_eq_true, Config.linesPositive_iff, Config.ticksSum_iff,
    Config.bandWPositive_iff, Config.activeEndsInLine_iff, Config.targetGaps_iff, Config.linesFit_iff, Config.periodFits_iff,
    Config.eightBands_iff, and_assoc]

namespace Machine

theorem step_of_not_wellFormed {s : State} (h : ¬s.cfg.wellFormed = true) : step s = .refused .peBadConfig := if_neg h

/-- Settles O34: an accepted configuration meets R11's conditions, so `step` refuses one that fails them. -/
theorem illFormedConfigurationIsRefused : Obligations.IllFormedConfigurationIsRefused := by
  intro s hbad
  refine step_of_not_wellFormed fun hwf => hbad ?_
  exact (s.cfg.wellFormed_iff.mp hwf).1

end Machine
end Sys2Proof
end

/-! Proofs: what a micro-op writes (10_state.md R21, R43), and that every tick answers a next state (60_exceptions.md R132). -/
section
namespace Sys2Proof.Machine

variable {s t w : State}

/-! ### No operation stops -/

theorem exec_total (i : Instr) (s : State) : ∃ t, exec i s = .next t := by
  cases i <;> exact ⟨_, rfl⟩

theorem issue_total (w : State) : ∃ t, issue w = .next t := by
  unfold issue
  split
  · exact exec_total _ w
  · exact ⟨_, rfl⟩

theorem sequencer_total (w : State) : ∃ t, sequencer w = .next t := by
  unfold sequencer
  split
  · split
    · split
      · exact issue_total _
      · exact ⟨_, rfl⟩
    · exact ⟨_, rfl⟩
  · split
    · exact ⟨_, rfl⟩
    · exact issue_total w

theorem tick_total (s : State) : ∃ t, tick s = .next t := by
  unfold tick
  split
  · obtain ⟨u, hu⟩ := sequencer_total s.latchPins.deliver
    exact ⟨u.frameClock, by rw [hu]; rfl⟩
  · exact ⟨_, rfl⟩

theorem tickWithHost_total (s : State) : ∃ t, tickWithHost s = .next t := by
  unfold tickWithHost
  split
  · split
    · exact tick_total _
    · exact ⟨_, rfl⟩
  · exact tick_total _

theorem step_total (hwf : s.cfg.wellFormed = true) : ∃ t, step s = .next t := by
  obtain ⟨u, hu⟩ := tickWithHost_total s
  exact ⟨u.endTick, by rw [step, if_pos hwf, hu]; rfl⟩

/-! ### What a micro-op writes, and what it leaves alone -/

/-- A drawn duration, on to the next index (R20, R31, log 4). -/
theorem afterDraw_nextPc_run (s : State) (d : Nat) :
    s.afterDraw.nextPc.run d = { s with seqPc := s.seqPc + 1, opcnt := d - 1, draws := s.draws + 1 } := rfl

/-- A micro-op writes `COLOR`, `SYNC_C`, `SEQ_PC` and `OPCNT` and takes draws; beyond that a missed WAIT raises
`TV_WAIT_MISSED`, and ADV advances the line (R75, R84, R92, R93, R96, R105). -/
theorem exec_cases {i : Instr} (h : exec i s = .next t) :
    ∃ (r : State) (c : Colour) (level : Bool) (pc : RomIndex) (n d : Nat),
      (r = s ∨ r = s.raise .tvWaitMissed ∨ (i = .adv ∧ r = s.advance)) ∧
        t = { r with color := c, syncC := level, seqPc := pc, opcnt := n, draws := d } := by
  cases i with
  | wait t8 =>
    cases h
    split
    · exact ⟨s, _, _, _, _, _, .inl rfl, rfl⟩
    · exact ⟨s.raise .tvWaitMissed, _, _, _, _, _, .inr (.inl rfl), rfl⟩
  | adv =>
    cases h
    exact ⟨s.advance, _, _, _, _, _, .inr (.inr ⟨rfl, rfl⟩), afterDraw_nextPc_run _ _⟩
  | setc c3 =>
    cases h
    exact ⟨s, _, _, _, _, _, .inl rfl, rfl⟩
  | tgls =>
    cases h
    exact ⟨s, _, _, _, _, _, .inl rfl, rfl⟩
  | ret =>
    cases h
    exact ⟨s, _, _, _, _, _, .inl rfl, rfl⟩
  | disp =>
    cases h
    exact ⟨s, _, _, _, _, _, .inl rfl, rfl⟩

/-- `t` differs from `s` only in what the Sequencer's phase of a tick may write (R106 phase 2): the Frame Clock, the enables, the
tables, the pins' delay lines, the strobe port and the tick indices are the same. -/
structure SequencerFrame (s t : State) : Prop where
  tcnt : t.tcnt = s.tcnt
  period : t.period = s.period
  armed : t.armed = s.armed
  evtIE : t.evtIE = s.evtIE
  gie : t.gie = s.gie
  evtFlag : t.evtFlag = s.evtFlag
  inited : t.inited = s.inited
  cfg : t.cfg = s.cfg
  rom : t.rom = s.rom
  targetAbs : t.targetAbs = s.targetAbs
  colorLine : t.colorLine = s.colorLine
  syncLine : t.syncLine = s.syncLine
  tau : t.tau = s.tau
  tauInit : t.tauInit = s.tauInit
  hostInit : t.hostInit = s.hostInit

theorem SequencerFrame.refl (s : State) : SequencerFrame s s := by constructor <;> rfl

theorem SequencerFrame.trans {u : State} (h : SequencerFrame s t) (h' : SequencerFrame t u) : SequencerFrame s u :=
  ⟨h'.tcnt.trans h.tcnt, h'.period.trans h.period, h'.armed.trans h.armed, h'.evtIE.trans h.evtIE, h'.gie.trans h.gie,
    h'.evtFlag.trans h.evtFlag, h'.inited.trans h.inited, h'.cfg.trans h.cfg, h'.rom.trans h.rom,
    h'.targetAbs.trans h.targetAbs, h'.colorLine.trans h.colorLine, h'.syncLine.trans h.syncLine, h'.tau.trans h.tau,
    h'.tauInit.trans h.tauInit, h'.hostInit.trans h.hostInit⟩

theorem SequencerFrame.raise (s : State) (f : FaultCode) : SequencerFrame s (s.raise f) := by constructor <;> rfl

theorem SequencerFrame.advance (s : State) : SequencerFrame s s.advance := by
  obtain ⟨-, h⟩ | ⟨-, -, h⟩ | ⟨-, -, -, h⟩ := advance_cases s <;> rw [h] <;> constructor <;> rfl

theorem exec_frame {i : Instr} (h : exec i s = .next t) : SequencerFrame s t := by
  obtain ⟨r, c, level, pc, n, d, hr, rfl⟩ := exec_cases h
  have hkept : SequencerFrame s r := by
    obtain rfl | rfl | ⟨-, rfl⟩ := hr
    · exact .refl r
    · exact .raise s _
    · exact .advance s
  exact { hkept with }

/-! ### What reading an element gives after each operation of a micro-op (R43) -/

theorem read_run (s : State) (d : Nat) {e : Element} (he : e ≠ .opcnt) : (s.run d).read e = s.read e := by
  cases e with
  | opcnt => exact absurd rfl he
  | _ => rfl

theorem read_withSeqPc (s : State) (pc : RomIndex) {e : Element} (he : e ≠ .seqPc) :
    ({ s with seqPc := pc } : State).read e = s.read e := by
  cases e with
  | seqPc => exact absurd rfl he
  | _ => rfl

theorem read_nextPc (s : State) {e : Element} (he : e ≠ .seqPc) : s.nextPc.read e = s.read e := read_withSeqPc s _ he

theorem read_withColor (s : State) (c : Colour) {e : Element} (he : e ≠ .color) :
    ({ s with color := c } : State).read e = s.read e := by
  cases e with
  | color => exact absurd rfl he
  | _ => rfl

theorem read_withSyncC (s : State) (level : Bool) {e : Element} (he : e ≠ .syncC) :
    ({ s with syncC := level } : State).read e = s.read e := by
  cases e with
  | syncC => exact absurd rfl he
  | _ => rfl

theorem read_raise (s : State) (f : FaultCode) {e : Element} (he : e ≠ .faults) : (s.raise f).read e = s.read e := by
  cases e with
  | faults => exact absurd rfl he
  | _ => rfl

theorem read_afterDraw (s : State) (e : Element) : s.afterDraw.read e = s.read e := by
  cases e <;> rfl

theorem read_advance (s : State) {e : Element} (hphase : e ≠ .phase) (hlines : e ≠ .linesRem) (hfaults : e ≠ .faults) :
    s.advance.read e = s.read e := by
  obtain ⟨-, h⟩ | ⟨-, -, h⟩ | ⟨-, -, -, h⟩ := advance_cases s <;> rw [h]
  · exact read_raise s _ hfaults
  all_goals
    cases e with
    | phase => exact absurd rfl hphase
    | linesRem => exact absurd rfl hlines
    | _ => rfl

/-- A micro-op leaves every element alone but those named for it. -/
theorem exec_read {i : Instr} (h : exec i s = .next t) {e : Element} (he : e ∉ elementsWritten i) : t.read e = s.read e := by
  cases i <;> simp only [elementsWritten, List.mem_cons, List.not_mem_nil, or_false, not_or] at he
  case wait t8 =>
    obtain ⟨hpc, hop, hfaults⟩ := he
    cases h
    split
    · exact (read_run _ _ hop).trans (read_nextPc s hpc)
    · exact (read_run _ _ hop).trans ((read_nextPc _ hpc).trans ((read_afterDraw _ e).trans (read_raise s _ hfaults)))
  case setc c3 =>
    obtain ⟨hpc, hop, hcolor⟩ := he
    cases h
    exact (read_withColor _ c3 hcolor).trans ((read_run _ _ hop).trans (read_nextPc s hpc))
  case tgls =>
    obtain ⟨hpc, hop, hsync⟩ := he
    cases h
    exact (read_withSyncC _ _ hsync).trans ((read_run _ _ hop).trans (read_nextPc s hpc))
  case adv =>
    obtain ⟨hpc, hop, hphase, hlines, hfaults⟩ := he
    rw [exec_adv] at h
    injection h with h
    rw [← h, read_run _ _ hop, read_nextPc _ hpc, read_afterDraw, read_advance s hphase hlines hfaults]
  case ret =>
    obtain ⟨hpc, hop⟩ := he
    cases h
    exact (read_run _ _ hop).trans (read_withSeqPc s _ hpc)
  case disp =>
    obtain ⟨hpc, hop⟩ := he
    cases h
    exact (read_run _ _ hop).trans ((read_withSeqPc _ _ hpc).trans (read_afterDraw s e))

/-- Only WAIT and ADV can raise, so no other micro-op touches the record of the first raise (R110). -/
theorem exec_firstRaise {i : Instr} (h : exec i s = .next t) (hi : Element.faults ∉ elementsWritten i) :
    t.firstRaise = s.firstRaise := by
  cases i with
  | wait t8 => simp [elementsWritten] at hi
  | adv => simp [elementsWritten] at hi
  | setc c3 => cases h; rfl
  | tgls => cases h; rfl
  | ret => cases h; rfl
  | disp => cases h; rfl

/-- Settles O21: the elements by `exec_read`, the rest of the state by the Sequencer's frame. -/
theorem microOpFrame : Obligations.MicroOpFrame := by
  intro i s t h
  have hkept := exec_frame h
  refine ⟨fun e he => exec_read h ?_, hkept.cfg, hkept.rom, hkept.targetAbs, hkept.colorLine, hkept.syncLine, hkept.tau,
    hkept.tauInit, hkept.hostInit, exec_firstRaise h⟩
  cases i <;> exact he

end Sys2Proof.Machine
end

/-! Proofs: invariants of a run. What every part of a tick keeps, every tick keeps (43_signal_driver.md R106), and so every run. -/
section
namespace Sys2Proof.Machine

/-- What the Sequencer's phase of a tick does to the state, part by part, keeps `P` (R106 phase 2, R107, R120). -/
structure SequencerInvariant (P : State → Prop) : Prop where
  countEntry : ∀ w, P w → P { w with entrycnt := w.entrycnt - 1 }
  countOp : ∀ w, P w → P { w with opcnt := w.opcnt - 1 }
  enterEvent : ∀ w, P w → P w.enterEvent
  abandon : ∀ w, P w → P w.abandon
  exec : ∀ i w t, P w → exec i w = .next t → P t

/-- Every part of a tick keeps `P` (R106, R135, R136): the strobe, INIT, the faults that a second INIT and an event's delivery
raise, the pins, the event's latch, the Sequencer, the Frame Clock and the end of the tick. -/
structure TickInvariant (P : State → Prop) : Prop extends SequencerInvariant P where
  popStrobe : ∀ s, P s → P s.popStrobe
  init : ∀ s, P s → P s.init
  raise : ∀ s f, f ≠ .peBadConfig → f ≠ .invariant → P s → P (s.raise f)
  latchPins : ∀ s, P s → P s.latchPins
  latchEvent : ∀ s e, P s → P { s.afterDraw with pending := true, entrycnt := e }
  frameClock : ∀ s, P s → P s.frameClock
  endTick : ∀ s, P s → P s.endTick

variable {P : State → Prop} {s t w : State}

theorem SequencerInvariant.issue (hP : SequencerInvariant P) (hw : P w) (h : issue w = .next t) : P t := by
  obtain ⟨i, -, hexec⟩ | ⟨e, -, rfl⟩ := issue_cases h
  · exact hP.exec i w t hw hexec
  · exact hP.abandon w hw

theorem SequencerInvariant.sequencer (hP : SequencerInvariant P) (hw : P w) (h : sequencer w = .next t) : P t := by
  obtain ⟨-, -, rfl⟩ | ⟨-, -, -, -, rfl⟩ | ⟨-, hissue⟩ | ⟨-, -, rfl⟩ | ⟨-, -, hissue⟩ := sequencer_cases h
  · exact hw
  · exact hP.countEntry w hw
  · exact hP.issue (hP.enterEvent w hw) hissue
  · exact hP.countOp w hw
  · exact hP.issue hw hissue

theorem TickInvariant.raiseIf (hP : TickInvariant P) (b : Bool) {f : FaultCode} (hcfg : f ≠ .peBadConfig)
    (hinv : f ≠ .invariant) (hs : P s) : P (if b then s.raise f else s) := by
  cases b
  · exact hs
  · exact hP.raise s f hcfg hinv hs

theorem TickInvariant.deliver (hP : TickInvariant P) (hs : P s) : P s.deliver := by
  unfold State.deliver
  split
  · exact hP.latchEvent _ _
      (hP.raiseIf _ (by decide) (by decide) (hP.raiseIf _ (by decide) (by decide) hs))
  · exact hs

theorem TickInvariant.atSequencer (hP : TickInvariant P) (hs : P s) : P s.atSequencer :=
  hP.deliver (hP.latchPins _ (hP.raiseIf _ (by decide) (by decide) (hP.popStrobe s hs)))

theorem TickInvariant.step (hP : TickInvariant P) (hs : P s) (h : step s = .next t) : P t := by
  obtain ⟨-, ⟨-, -, rfl⟩ | ⟨-, -, rfl⟩ | ⟨-, u, hu, rfl⟩⟩ := step_cases h
  · exact hP.endTick _ (hP.init _ (hP.popStrobe s hs))
  · exact hP.endTick _ (hP.popStrobe s hs)
  · exact hP.endTick _ (hP.frameClock u (hP.sequencer (hP.atSequencer hs) hu))

/-- The first of `n + 1` ticks that answer a state, and the others. -/
theorem ticks_succ_next {n : Nat} (h : ticks (n + 1) s = .next t) : ∃ u, step s = .next u ∧ ticks n u = .next t := by
  rw [ticks_succ_eq] at h
  cases hu : step s with
  | next u => exact ⟨u, rfl, by rwa [hu] at h⟩
  | fault r => rw [hu] at h; cases h
  | refused r => rw [hu] at h; cases h

theorem TickInvariant.ticks (hP : TickInvariant P) (n : Nat) (hs : P s) (h : ticks n s = .next t) : P t := by
  induction n generalizing s with
  | zero =>
    cases h
    exact hs
  | succ n ih =>
    obtain ⟨u, hu, ht⟩ := ticks_succ_next h
    exact ih (hP.step hs hu) ht

/-! ### What the Sequencer's phase of a tick leaves alone -/

theorem sequencerInvariant_frame (s : State) : SequencerInvariant (SequencerFrame s) where
  countEntry _ hw := { hw with }
  countOp _ hw := { hw with }
  enterEvent _ hw := { hw with }
  abandon _ hw := { hw with }
  exec _ _ _ hw h := hw.trans (exec_frame h)

theorem sequencer_frame (h : sequencer w = .next t) : SequencerFrame w t :=
  (sequencerInvariant_frame w).sequencer (.refl w) h

/-! ### What no tick writes -/

/-- The configuration, the ROM and the targets are those of `r` (R36). -/
def State.SameTables (r s : State) : Prop := s.cfg = r.cfg ∧ s.rom = r.rom ∧ s.targetAbs = r.targetAbs

theorem tickInvariant_sameTables (r : State) : TickInvariant r.SameTables where
  countEntry _ hw := hw
  countOp _ hw := hw
  enterEvent _ hw := hw
  abandon _ hw := hw
  exec _ _ _ hw h := by
    obtain ⟨hcfg, hrom, htarget⟩ := hw
    have hkept := exec_frame h
    exact ⟨hkept.cfg.trans hcfg, hkept.rom.trans hrom, hkept.targetAbs.trans htarget⟩
  popStrobe _ hs := hs
  init _ hs := hs
  raise _ _ _ _ hs := hs
  latchPins _ hs := hs
  latchEvent _ _ hs := hs
  frameClock s hs := by simpa only [State.SameTables, frameClock_cfg, frameClock_rom, frameClock_targetAbs] using hs
  endTick _ hs := hs

/-- Settles O36: no part of a tick writes the tables. -/
theorem romAndTablesAreReadOnly : Obligations.RomAndTablesAreReadOnly := fun n s _ h =>
  (tickInvariant_sameTables s).ticks n ⟨rfl, rfl, rfl⟩ h

theorem step_cfg (h : step s = .next t) : t.cfg = s.cfg := ((tickInvariant_sameTables s).step ⟨rfl, rfl, rfl⟩ h).1

theorem ticks_cfg {n : Nat} (h : ticks n s = .next t) : t.cfg = s.cfg := (romAndTablesAreReadOnly n s t h).1

theorem ticks_total (hwf : s.cfg.wellFormed = true) (n : Nat) : ∃ t, ticks n s = .next t := by
  induction n generalizing s with
  | zero => exact ⟨s, rfl⟩
  | succ n ih =>
    obtain ⟨u, hu⟩ := step_total hwf
    rw [ticks_succ n hu]
    exact ih (by rwa [step_cfg hu])

/-- Nothing takes INIT back (R35). -/
theorem tickInvariant_inited : TickInvariant (fun s => s.inited = true) where
  countEntry _ hw := hw
  countOp _ hw := hw
  enterEvent _ hw := hw
  abandon _ hw := hw
  exec _ _ _ hw h := (exec_frame h).inited.trans hw
  popStrobe _ hs := hs
  init _ _ := rfl
  raise _ _ _ _ hs := hs
  latchPins _ hs := hs
  latchEvent _ _ hs := hs
  frameClock s hs := (frameClock_inited s).trans hs
  endTick _ hs := hs

end Sys2Proof.Machine
end

/-! Proofs: the width of `OPCNT` (10_state.md R31; 41_waiter.md R75, R78; log 5). -/
section
namespace Sys2Proof.Machine

variable {s t : State}

/-- `OPCNT` fits its 16 bits, or a WAIT has been missed (log 5). -/
def State.OpcntFits (s : State) : Prop := s.opcnt < 65536 ∨ s.raised .tvWaitMissed = true

/-- The longest stall of an in-window WAIT is 255 + `WAIT_B` (R79). -/
theorem waitTicks_le (s : State) (t8 : BitVec 8) : s.waitTicks t8 ≤ 65536 := by
  have hdelta : waitDelta t8 s.tcnt < 256 := BitVec.isLt _
  have hfits := s.cfg.waitB.fits
  unfold State.waitTicks
  omega

theorem drawn_duration_le (s : State) (r : DurationRange) : s.drawn r.lo r.hi ≤ 65536 :=
  (drawn_mem s r.lo r.hi r.ordered).2.trans r.fits

theorem opcntFits_of_le {d : Nat} (hd : d ≤ 65536) (hs : s.opcnt = d - 1) : s.OpcntFits :=
  .inl (by omega)

theorem raised_waitMiss (s : State) : s.waitMiss.raised .tvWaitMissed = true := by
  simp [State.waitMiss, State.raised, FaultCode.bit, FaultCode.code]

theorem raise_opcntFits (f : FaultCode) (hs : s.OpcntFits) : (s.raise f).OpcntFits :=
  hs.imp id fun hmissed => by rw [raised_raise, hmissed, Bool.true_or]

/-- Every duration a micro-op loads is one that 16 bits can count, but for a missed WAIT's. -/
theorem exec_opcntFits {i : Instr} (h : exec i s = .next t) : t.OpcntFits := by
  cases i with
  | wait t8 =>
    cases h
    split
    · exact opcntFits_of_le (waitTicks_le s t8) rfl
    · exact .inr (raised_waitMiss s)
  | setc c3 =>
    cases h
    exact opcntFits_of_le s.cfg.durSetc.fits rfl
  | tgls =>
    cases h
    exact opcntFits_of_le s.cfg.durTgls.fits rfl
  | adv =>
    cases h
    exact opcntFits_of_le (drawn_duration_le s s.cfg.adv) rfl
  | ret =>
    cases h
    exact opcntFits_of_le s.cfg.durRet.fits rfl
  | disp =>
    cases h
    exact opcntFits_of_le (drawn_duration_le s s.cfg.disp) rfl

theorem tickInvariant_opcntFits : TickInvariant State.OpcntFits where
  countEntry _ hw := hw
  countOp w hw := hw.imp (Nat.sub_le w.opcnt 1).trans_lt id
  enterEvent w _ := .inl (by simp)
  abandon w _ := .inl (by simp)
  exec _ _ _ _ h := exec_opcntFits h
  popStrobe _ hs := hs
  init s _ := .inl (by simp)
  raise _ f _ _ hs := raise_opcntFits f hs
  latchPins _ hs := hs
  latchEvent _ _ hs := hs
  frameClock s hs := by simpa only [State.OpcntFits, State.raised, frameClock_opcnt, frameClock_faults] using hs
  endTick _ hs := hs

/-- Settles O48: `State.OpcntFits` is kept by every part of a tick. -/
theorem opcntFitsUntilAMiss : Obligations.OpcntFitsUntilAMiss := fun _ _ hs h => tickInvariant_opcntFits.step hs h

end Sys2Proof.Machine
end

/-! Proofs: the legal states (10_state.md R24, R27, R28; 60_exceptions.md R110, R112). -/
section
namespace Sys2Proof

theorem Config.count_mem {c : Config} (hwf : c.wellFormed = true) (p : Phase) : 1 ≤ c.count p ∧ c.count p < 65536 := by
  obtain ⟨⟨⟨hsync, hbp, hactive, hfp⟩, -, -, -, -, hfit, -⟩, -⟩ := c.wellFormed_iff.mp hwf
  refine ⟨?_, hfit p⟩
  cases p
  case syncPulse => exact hsync
  case backPorch => exact hbp
  case activeVideo => exact hactive
  case frontPorch => exact hfp

/-- `COUNT(p)` survives the write to `LINES_REM` (R11 (6), log 16). -/
theorem Config.count_toNat {c : Config} (hwf : c.wellFormed = true) (p : Phase) :
    (BitVec.ofNat 16 (c.count p)).toNat = c.count p :=
  Nat.mod_eq_of_lt (count_mem hwf p).2

theorem Config.period_mem {c : Config} (hwf : c.wellFormed = true) : 1 ≤ c.hFullLineNbTicks ∧ c.hFullLineNbTicks < 65536 := by
  obtain ⟨⟨-, ⟨hsync, -, -, -, hsum⟩, -, -, -, -, hfit⟩, -⟩ := c.wellFormed_iff.mp hwf
  omega

namespace Machine

variable {s t : State}

/-- None of `FAULTS[0]`, `FAULTS[4]` and `FAULTS[7]` is set (R110). -/
def State.faultsLegal (s : State) : Prop :=
  s.faults.getLsbD 0 = false ∧ s.raised .peBadConfig = false ∧ s.raised .invariant = false

/-- A legal state from INIT on. -/
def State.LiveLegal (s : State) : Prop := s.cfg.wellFormed = true ∧ s.live ∧ s.faultsLegal

theorem State.LiveLegal.legal (hs : s.LiveLegal) (hi : s.inited = true) : s.Legal := by
  obtain ⟨hwf, hlive, hfaults⟩ := hs
  exact ⟨hwf, fun h => by simp [hi] at h, fun _ => hlive, hfaults⟩

theorem raise_faultsLegal {f : FaultCode} (hcfg : f ≠ .peBadConfig) (hinv : f ≠ .invariant) (hs : s.faultsLegal) :
    (s.raise f).faultsLegal := by
  obtain ⟨hzero, hbad, hinvariant⟩ := hs
  refine ⟨?_, by simp [raised_raise, hbad, hcfg], by simp [raised_raise, hinvariant, hinv]⟩
  have hbit : f.bit.getLsbD 0 = false := by cases f <;> rfl
  rw [raise_faults, BitVec.getLsbD_or, hzero, hbit, Bool.or_false]

theorem raise_liveLegal {f : FaultCode} (hcfg : f ≠ .peBadConfig) (hinv : f ≠ .invariant) (hs : s.LiveLegal) :
    (s.raise f).LiveLegal := by
  obtain ⟨hwf, hlive, hfaults⟩ := hs
  exact ⟨hwf, hlive, raise_faultsLegal hcfg hinv hfaults⟩

/-- INIT establishes the invariants of the live block, whatever stood in its registers (R24 "INIT establishes it"). -/
theorem init_liveLegal (hwf : s.cfg.wellFormed = true) (hfaults : s.faultsLegal) : s.init.LiveLegal := by
  obtain ⟨hpos, hfit⟩ := Config.period_mem hwf
  obtain ⟨hcount, -⟩ := Config.count_mem hwf .frontPorch
  refine ⟨hwf, ⟨rfl, rfl, rfl, Nat.mod_eq_of_lt hfit, hpos, ?_, fun _ => rfl⟩, hfaults⟩
  simp only [State.linesLegal, init_linesRem, init_cfg, init_phase, Config.count_toNat hwf]
  exact ⟨hcount, le_rfl⟩

/-- An advance keeps the line counter within its phase, and so never meets `INVARIANT` (R24, R84, R85). -/
theorem advance_liveLegal (hs : s.LiveLegal) : s.advance.LiveLegal := by
  obtain ⟨hwf, ⟨harmed, hie, hgie, hperiod, htcnt, ⟨hpos, hle⟩, hflag⟩, hfaults⟩ := hs
  obtain ⟨hbad | hbad, -⟩ | ⟨-, -, h⟩ | ⟨-, hone, -, h⟩ := advance_cases s
  · simp [hbad] at hpos
  · omega
  · rw [h]
    refine ⟨hwf, ⟨harmed, hie, hgie, hperiod, htcnt, ?_, hflag⟩, hfaults⟩
    simp only [State.linesLegal, Config.count_toNat hwf]
    exact ⟨(Config.count_mem hwf _).1, le_rfl⟩
  · rw [h]
    refine ⟨hwf, ⟨harmed, hie, hgie, hperiod, htcnt, ?_, hflag⟩, hfaults⟩
    have hpred : (s.linesRem - 1).toNat = s.linesRem.toNat - 1 := by bv_omega
    have hne : s.linesRem.toNat ≠ 1 := fun h1 => hone (BitVec.eq_of_toNat_eq h1)
    simp only [State.linesLegal, hpred]
    omega

theorem exec_liveLegal {i : Instr} (hs : s.LiveLegal) (h : exec i s = .next t) : t.LiveLegal := by
  obtain ⟨r, c, level, pc, n, d, hr, rfl⟩ := exec_cases h
  have hlegal : r.LiveLegal := by
    obtain rfl | rfl | ⟨-, rfl⟩ := hr
    · exact hs
    · exact raise_liveLegal (by decide) (by decide) hs
    · exact advance_liveLegal hs
  exact hlegal

/-- The Frame Clock counts modulo a period that is not 0, and flags only the new 0 (R27, R112). -/
theorem frameClock_liveLegal (hs : s.LiveLegal) : s.frameClock.LiveLegal := by
  obtain ⟨hwf, ⟨harmed, hie, hgie, hperiod, -, hlines, -⟩, hfaults⟩ := hs
  obtain ⟨htcnt, hflag⟩ := frameClock_on s harmed
  obtain ⟨hpos, -⟩ := Config.period_mem hwf
  have hne : s.period ≠ 0 := by
    intro hzero
    rw [hzero] at hperiod
    exact absurd hperiod (Nat.ne_of_lt hpos)
  have hlt : (restart s.tcnt s.period).toNat < s.cfg.hFullLineNbTicks := by
    rw [restart_toNat _ _ hne, hperiod]
    exact Nat.mod_lt _ hpos
  simp only [State.LiveLegal, State.live, State.linesLegal, State.faultsLegal, State.raised, frameClock_cfg, frameClock_armed,
    frameClock_evtIE, frameClock_gie, frameClock_period, frameClock_linesRem, frameClock_phase, frameClock_faults, htcnt, hflag]
  exact ⟨hwf, ⟨harmed, hie, hgie, hperiod, hlt, hlines, of_decide_eq_true⟩, hfaults⟩

theorem tickInvariant_liveLegal : TickInvariant State.LiveLegal where
  countEntry _ hw := hw
  countOp _ hw := hw
  enterEvent _ hw := hw
  abandon _ hw := raise_liveLegal (f := .illegalOp) (by decide) (by decide) hw
  exec _ _ _ hw h := exec_liveLegal hw h
  popStrobe _ hs := hs
  init _ := fun ⟨hwf, _, hfaults⟩ => init_liveLegal hwf hfaults
  raise _ _ hcfg hinv hs := raise_liveLegal hcfg hinv hs
  latchPins _ hs := hs
  latchEvent _ _ hs := hs
  frameClock _ hs := frameClock_liveLegal hs
  endTick _ hs := hs

/-- Settles O47: from INIT on, every part of a tick keeps the live block legal; before INIT, a tick is INIT, which makes it so, or
leaves the quiet block as it is. -/
theorem legalIsKept : Obligations.LegalIsKept := by
  intro s t ⟨hwf, hquiet, hlive, hfaults⟩ h
  cases hi : s.inited with
  | true =>
    have hs : s.LiveLegal := ⟨hwf, hlive hi, hfaults⟩
    exact (tickInvariant_liveLegal.step hs h).legal (tickInvariant_inited.step hi h)
  | false =>
    obtain ⟨-, ⟨-, -, rfl⟩ | ⟨-, -, rfl⟩ | ⟨hinited, -⟩⟩ := step_cases h
    · exact State.LiveLegal.legal (init_liveLegal (s := s.popStrobe) hwf hfaults) rfl
    · exact ⟨hwf, hquiet, hlive, hfaults⟩
    · simp [hi] at hinited

/-- Settles O46: power-on is before INIT, quiet and without a fault. -/
theorem legalAtReset : Obligations.LegalAtReset := by
  refine ⟨by decide, fun _ => ?_, fun h => absurd h (by decide), by decide, by decide, by decide⟩
  unfold State.quiet
  decide

end Machine
end Sys2Proof
end

/-! Proofs: the pins (10_state.md R38 to R40). -/
section
namespace Sys2Proof.Machine

variable {s t : State}

/-- The tick of INIT (R135, R136). -/
theorem step_init (hwf : s.cfg.wellFormed = true) (hi : s.inited = false) (hs : s.strobe = true) :
    step s = .next s.popStrobe.init.endTick := by
  obtain ⟨t, ht⟩ := step_total hwf
  obtain ⟨-, ⟨-, -, rfl⟩ | ⟨hstrobe, -⟩ | ⟨hinited, -⟩⟩ := step_cases ht
  · exact ht
  · simp [hs] at hstrobe
  · simp [hi] at hinited

/-! ### Delay lines -/

theorem atSequencer_lines (s : State) :
    s.atSequencer.colorLine = (s.color :: s.colorLine).take s.cfg.outLatColor ∧
      s.atSequencer.syncLine = (s.syncC :: s.syncLine).take s.cfg.outLatSync := by
  unfold State.atSequencer
  split <;> simp

theorem step_lines (hi : s.inited = true) (h : step s = .next t) :
    t.colorLine = (s.color :: s.colorLine).take s.cfg.outLatColor ∧
      t.syncLine = (s.syncC :: s.syncLine).take s.cfg.outLatSync := by
  obtain ⟨-, ⟨-, hnot, -⟩ | ⟨-, hnot, -⟩ | ⟨-, u, hu, rfl⟩⟩ := step_cases h
  · simp [hi] at hnot
  · simp [hi] at hnot
  · have hkept := sequencer_frame hu
    obtain ⟨hcolor, hsync⟩ := atSequencer_lines s
    exact ⟨(frameClock_colorLine u).trans (hkept.colorLine.trans hcolor),
      (frameClock_syncLine u).trans (hkept.syncLine.trans hsync)⟩

/-- From INIT on, every tick puts the register into its line, which holds the last `lat` values, latest first (log 12). -/
def DelayLine {α : Type} (reg : State → α) (line : State → List α) (lat : Config → Nat) : Prop :=
  ∀ s t : State, s.inited = true → step s = .next t → line t = (reg s :: line s).take (lat s.cfg)

theorem delayLine_color : DelayLine State.color State.colorLine Config.outLatColor := fun _ _ hi h => (step_lines hi h).1

theorem delayLine_syncC : DelayLine State.syncC State.syncLine Config.outLatSync := fun _ _ hi h => (step_lines hi h).2

section
variable {α : Type} {reg : State → α} {line : State → List α} {lat : Config → Nat}

/-- What stands at place `j` now stands at place `k + j` after `k` ticks, up to the delay. -/
theorem DelayLine.getElem?_ticks (hd : DelayLine reg line lat) (k j : Nat) (hi : s.inited = true) (hkj : k + j ≤ lat s.cfg)
    (h : ticks k s = .next t) : (reg t :: line t)[k + j]? = (reg s :: line s)[j]? := by
  induction k generalizing s j with
  | zero =>
    cases h
    rw [Nat.zero_add]
  | succ k ih =>
    obtain ⟨u, hu, ht⟩ := ticks_succ_next h
    have hlat : k + (j + 1) ≤ lat u.cfg := by rw [step_cfg hu]; omega
    calc (reg t :: line t)[k + 1 + j]? = (reg t :: line t)[k + (j + 1)]? := by rw [Nat.add_right_comm, Nat.add_assoc]
      _ = (line u)[j]? := ih (j + 1) (tickInvariant_inited.step hi hu) hlat ht
      _ = (reg s :: line s)[j]? := by rw [hd s u hi hu, List.getElem?_take_of_lt (by omega)]

theorem DelayLine.shows_register (hd : DelayLine reg line lat) (hwf : s.cfg.wellFormed = true) (hi : s.inited = true) :
    ∃ t, ticks (lat s.cfg) s = .next t ∧ t.inited = true ∧ (reg t :: line t)[lat t.cfg]? = some (reg s) := by
  obtain ⟨t, ht⟩ := ticks_total hwf (lat s.cfg)
  refine ⟨t, ht, tickInvariant_inited.ticks _ hi ht, ?_⟩
  rw [ticks_cfg ht]
  exact hd.getElem?_ticks _ 0 hi le_rfl ht

/-- INIT empties the line, and fewer ticks than the delay do not fill it. -/
theorem DelayLine.none_after_init (hd : DelayLine reg line lat) (hline : line s.popStrobe.init.endTick = []) {k : Nat}
    (hwf : s.cfg.wellFormed = true) (hi : s.inited = false) (hs : s.strobe = true) (hk : k < lat s.cfg) :
    ∃ t, ticks (k + 1) s = .next t ∧ t.inited = true ∧ (reg t :: line t)[lat t.cfg]? = none := by
  rw [ticks_succ k (step_init hwf hi hs)]
  obtain ⟨t, ht⟩ := ticks_total (s := s.popStrobe.init.endTick) hwf k
  refine ⟨t, ht, tickInvariant_inited.ticks k rfl ht, ?_⟩
  obtain ⟨j, hj⟩ := Nat.exists_eq_add_of_lt hk
  have hlat : lat t.cfg = k + (j + 1) := by rw [ticks_cfg ht]; exact hj
  rw [hlat, hd.getElem?_ticks (s := s.popStrobe.init.endTick) k (j + 1) rfl hj.ge ht, hline]
  rfl

end

theorem rgb_of_inited (hi : s.inited = true) : s.rgb = (s.color :: s.colorLine)[s.cfg.outLatColor]? := if_pos hi

theorem vsync_of_inited (hi : s.inited = true) : s.vsync = (s.syncC :: s.syncLine)[s.cfg.outLatSync]? := if_pos hi

/-- Settles O44: `COLOR` and `SYNC_C` each stand in a delay line, whose end is the pin. -/
theorem pinsFollowTheirRegisters : Obligations.PinsFollowTheirRegisters := by
  refine ⟨fun s hwf hi => ⟨?_, ?_⟩, fun s k hwf hi hs => ⟨fun hk => ?_, fun hk => ?_⟩, fun s hi => ?_⟩
  · obtain ⟨t, ht, hinited, hshown⟩ := delayLine_color.shows_register hwf hi
    exact ⟨t, ht, (rgb_of_inited hinited).trans hshown⟩
  · obtain ⟨t, ht, hinited, hshown⟩ := delayLine_syncC.shows_register hwf hi
    exact ⟨t, ht, (vsync_of_inited hinited).trans hshown⟩
  · obtain ⟨t, ht, hinited, hnone⟩ := delayLine_color.none_after_init rfl hwf hi hs hk
    exact ⟨t, ht, (rgb_of_inited hinited).trans hnone⟩
  · obtain ⟨t, ht, hinited, hnone⟩ := delayLine_syncC.none_after_init rfl hwf hi hs hk
    exact ⟨t, ht, (vsync_of_inited hinited).trans hnone⟩
  · simp [State.rgb, State.vsync, hi]

/-- Settles O45, by cases on the source and on the compare, which decides between the asserted and the idle level. -/
theorem hsyncFollowsTheCounter : Obligations.HsyncFollowsTheCounter := by
  intro s
  refine ⟨fun hsource => ⟨fun harmed hlt => ?_, fun hnot => ?_⟩, fun hsource => ?_⟩
  · simp [State.hsync, hsource, harmed, hlt]
  · simp only [State.hsync, hsource, Bool.and_eq_true, decide_eq_true_eq, if_neg hnot]
  · simp only [State.hsync, hsource]

end Sys2Proof.Machine
end

/-! Proofs: the status registers (10_state.md R29, R30) and the assembler (30_encoding.md R74). -/
section
namespace Sys2Proof

theorem Machine.tctrl_bits (s : Machine.State) :
    s.tctrl.getLsbD 0 = s.armed ∧ s.tctrl.getLsbD 1 = true ∧ s.tctrl.getLsbD 2 = s.evtIE ∧ s.tctrl.toNat / 8 = 0 := by
  unfold State.tctrl
  generalize s.armed = armed
  generalize s.evtIE = evtIE
  revert armed evtIE
  decide

theorem Machine.istat_bits (s : Machine.State) :
    s.istat.getLsbD 0 = s.gie ∧ s.istat.getLsbD 1 = s.pending ∧ s.istat.getLsbD 2 = s.evtFlag := by
  unfold State.istat
  generalize s.gie = gie
  generalize s.pending = pending
  generalize s.evtFlag = evtFlag
  revert gie pending evtFlag
  decide

/-- Settles O8: each register's bits, for every value of the flags in it. -/
theorem Machine.statusRegisterBits : Obligations.StatusRegisterBits := by
  intro s
  obtain ⟨harmed, hrestart, hie, hother⟩ := tctrl_bits s
  exact ⟨harmed, hrestart, hie, hother, istat_bits s⟩

theorem encode_wait (t8 : BitVec 8) : encode (.wait t8) = 0x1000#16 ||| t8.setWidth 16 := by
  revert t8
  decide

theorem encode_setc (c3 : Colour) : encode (.setc c3) = 0x2000#16 ||| c3.setWidth 16 := by
  revert c3
  decide

theorem Slot.wait_eq (abs : Nat) : Slot.wait abs = ⟨0x1000 ||| BitVec.ofNat 16 (abs % 256), some abs⟩ := by
  have hbyte : abs % 256 < 2 ^ 8 := Nat.mod_lt _ (by decide)
  rw [Slot.wait, encode_wait, BitVec.setWidth_ofNat_of_le_of_lt (by decide) hbyte]
  rfl

theorem Slot.plain_setc_eq {c : Nat} (hc : c < 8) :
    Slot.plain (.setc (BitVec.ofNat 3 c)) = ⟨0x2000 ||| BitVec.ofNat 16 c, none⟩ := by
  rw [Slot.plain, encode_setc, BitVec.setWidth_ofNat_of_le_of_lt (by decide) hc]
  rfl

/-- Settles O5: WAIT and SETC by their slots, the refusals by the assembler's range checks, the fixed lines by evaluation. -/
theorem assemblerWordsAndRefusals : Obligations.AssemblerWordsAndRefusals := by
  intro period
  refine ⟨fun abs habs => ?_, fun abs habs => if_neg habs.not_gt, fun c hc => ?_, fun c hc => if_neg hc.not_gt,
    rfl, rfl, rfl, rfl, rfl, rfl, rfl, rfl, fun n => ?_, rfl, rfl, rfl, rfl, rfl⟩
  · rw [assemble, if_pos habs, Slot.wait_eq]
  · rw [assemble, if_pos hc, Slot.plain_setc_eq hc]
  · cases n <;> rfl

end Sys2Proof
end

/-! Proofs: the decoder (30_encoding.md R58 to R64). -/
section
namespace Sys2Proof

/-! ### The decoder, case by case on `OP` -/

theorem opField_toNat (w : Word) : (opField w).toNat = w.toNat / 4096 := by
  simp only [opField, BitVec.extractLsb'_toNat, Nat.shiftRight_eq_div_pow]
  omega

/-- A field of a word is 0 when the number it stands for is (R13). -/
theorem extractLsb'_eq_zero_iff (w : Word) (start len : Nat) :
    w.extractLsb' start len = 0 ↔ w.toNat / 2 ^ start % 2 ^ len = 0 := by
  rw [← BitVec.toNat_inj, BitVec.extractLsb'_toNat, Nat.shiftRight_eq_div_pow]
  simp

theorem extractLsb'_zero_eq_ofNat (w : Word) (len : Nat) : w.extractLsb' 0 len = BitVec.ofNat len w.toNat := by
  apply BitVec.eq_of_toNat_eq
  simp

theorem decode_of_op_wait {w : Word} (h : w.toNat / 4096 = 1) :
    decode w = if w.toNat / 256 % 16 = 0 then .op (.wait (BitVec.ofNat 8 w.toNat)) else .illegal (.mustBeZero (opField w)) := by
  simp only [decode, opField_toNat, h, extractLsb'_eq_zero_iff, extractLsb'_zero_eq_ofNat]
  rfl

theorem decode_of_op_setc {w : Word} (h : w.toNat / 4096 = 2) :
    decode w = if w.toNat / 8 % 512 = 0 then .op (.setc (BitVec.ofNat 3 w.toNat)) else .illegal (.mustBeZero (opField w)) := by
  simp only [decode, opField_toNat, h, extractLsb'_eq_zero_iff, extractLsb'_zero_eq_ofNat]
  rfl

/-- The four micro-ops of format Z (R59) have all twelve bits below `OP` must-be-zero. -/
theorem decode_of_op_z {i : Instr} (hz : i.row.format = .Z) {w : Word} (h : w.toNat / 4096 = i.row.op.toNat) :
    decode w = if w.toNat % 4096 = 0 then .op i else .illegal (.mustBeZero (opField w)) := by
  cases i with
  | wait t8 => cases hz
  | setc c3 => cases hz
  | _ =>
    simp only [decode, opField_toNat, h, extractLsb'_eq_zero_iff, Nat.pow_zero, Nat.div_one]
    rfl

theorem decode_of_op_reserved {w : Word} (h : w.toNat / 4096 = 0 ∨ 7 ≤ w.toNat / 4096) :
    decode w = .illegal (.reservedOp (opField w)) := by
  rw [← opField_toNat] at h
  unfold decode
  split
  case h_7 => rfl
  all_goals omega

/-- A decoder branch answers its micro-op where its must-be-zero bits are 0, and `Illegal` elsewhere (R63). -/
theorem decoded_ite {d : Decoded} {p : Prop} [Decidable p] {i : Instr} {e : Illegal}
    (h : d = if p then .op i else .illegal e) : (p → d = .op i) ∧ (¬p → ∃ e, d = .illegal e) :=
  ⟨fun hp => h.trans (if_pos hp), fun hp => ⟨e, h.trans (if_neg hp)⟩⟩

/-- Settles O4: one branch of the decoder for each `OP`. -/
theorem decoderIsTotalByOpcode : Obligations.DecoderIsTotalByOpcode := fun _ =>
  ⟨fun h => decoded_ite (decode_of_op_wait h), fun h => decoded_ite (decode_of_op_setc h),
    fun h => decoded_ite (decode_of_op_z (i := .tgls) rfl h), fun h => decoded_ite (decode_of_op_z (i := .adv) rfl h),
    fun h => decoded_ite (decode_of_op_z (i := .ret) rfl h), fun h => decoded_ite (decode_of_op_z (i := .disp) rfl h),
    fun h => ⟨_, decode_of_op_reserved h⟩⟩

/-! ### The encoder and the decoder -/

theorem encode_wait_toNat (t8 : BitVec 8) : (encode (.wait t8)).toNat = 4096 + t8.toNat := by
  revert t8
  decide

theorem encode_setc_toNat (c3 : Colour) : (encode (.setc c3)).toNat = 8192 + c3.toNat := by
  revert c3
  decide

theorem encode_toNat_of_z {i : Instr} (hz : i.row.format = .Z) : (encode i).toNat = i.row.op.toNat * 4096 := by
  cases i with
  | wait t8 => cases hz
  | setc c3 => cases hz
  | _ => rfl

/-- No bit of an encoding is dropped. -/
theorem decode_encode (i : Instr) : decode (encode i) = .op i := by
  cases i with
  | wait t8 => revert t8; decide
  | setc c3 => revert c3; decide
  | _ => rfl

theorem op_of_decode {w : Word} {i : Instr} (h : decode w = .op i) : w.toNat / 4096 = i.row.op.toNat := by
  rw [← opField_toNat]
  unfold decode at h
  split at h
  case h_7 => cases h
  all_goals
    split at h
    · cases h
      assumption
    · cases h

/-- Every legal word has one spelling: `OP`, the must-be-zero bits and the operand fix every bit of it. -/
theorem encode_of_decode {w : Word} {i : Instr} (h : decode w = .op i) : encode i = w := by
  apply BitVec.eq_of_toNat_eq
  cases i with
  | wait t8 =>
    have hop : w.toNat / 4096 = 1 := op_of_decode h
    rw [decode_of_op_wait hop] at h
    split at h
    · cases h
      rw [encode_wait_toNat, BitVec.toNat_ofNat]
      omega
    · cases h
  | setc c3 =>
    have hop : w.toNat / 4096 = 2 := op_of_decode h
    rw [decode_of_op_setc hop] at h
    split at h
    · cases h
      rw [encode_setc_toNat, BitVec.toNat_ofNat]
      omega
    · cases h
  | _ =>
    have hop := op_of_decode h
    rw [decode_of_op_z rfl hop] at h
    split at h
    · rw [encode_toNat_of_z rfl, ← hop]
      omega
    · cases h

/-! ### The opcode map (R61) -/

theorem row_mem_opcodeRows (i : Instr) : i.row ∈ opcodeRows := by
  cases i <;> simp [opcodeRows, Instr.row]

theorem row_matches_encode (i : Instr) : i.row.matches (encode i) = true := by
  cases i with
  | wait t8 => exact (Laws.Encoding.wait t8).1
  | setc c3 => exact (Laws.Encoding.setc c3).1
  | tgls => exact Laws.Encoding.tgls.1
  | adv => exact Laws.Encoding.adv.1
  | ret => exact Laws.Encoding.ret.1
  | disp => exact Laws.Encoding.disp.1

/-- A row whose mask keeps the bits from `n` up matches the words that hold `match` in those bits. -/
theorem matches_iff {r : OpRow} (n : Nat) (hmask : r.mask = BitVec.allOnes 16 <<< n) (w : Word) :
    r.matches w = true ↔ w.toNat / 2 ^ n * 2 ^ n = r.matchBits.toNat := by
  have hlt : w.toNat / 2 ^ n * 2 ^ n < 2 ^ 16 := (Nat.div_mul_le_self _ _).trans_lt w.isLt
  rw [OpRow.matches, beq_iff_eq, hmask, ← BitVec.shiftLeft_ushiftRight, ← BitVec.toNat_inj, BitVec.toNat_shiftLeft,
    BitVec.toNat_ushiftRight, Nat.shiftLeft_eq, Nat.shiftRight_eq_div_pow, Nat.mod_eq_of_lt hlt]

/-- The mask of a format Z row keeps the whole word. -/
theorem eq_encode_of_matches_z {i : Instr} (hz : i.row.format = .Z) {w : Word} (hm : i.row.matches w = true) :
    w = encode i := by
  cases i with
  | wait t8 => cases hz
  | setc c3 => cases hz
  | _ => exact BitVec.and_allOnes.symm.trans (beq_iff_eq.mp hm)

/-- A word that matches a row has the row's `OP`, and 0 in the bits that must be zero. -/
theorem decode_of_matches (i : Instr) {w : Word} (hm : i.row.matches w = true) : ∃ j, decode w = .op j ∧ j.row = i.row := by
  cases i with
  | wait t8 =>
    have hbits : w.toNat / 256 * 256 = 4096 := (matches_iff 8 rfl w).mp hm
    have hop : w.toNat / 4096 = 1 := by omega
    exact ⟨_, (decoded_ite (decode_of_op_wait hop)).1 (by omega), rfl⟩
  | setc c3 =>
    have hbits : w.toNat / 8 * 8 = 8192 := (matches_iff 3 rfl w).mp hm
    have hop : w.toNat / 4096 = 2 := by omega
    exact ⟨_, (decoded_ite (decode_of_op_setc hop)).1 (by omega), rfl⟩
  | _ =>
    rw [eq_encode_of_matches_z rfl hm]
    exact ⟨_, decode_encode _, rfl⟩

theorem exists_row_of_mem {r : OpRow} (hr : r ∈ opcodeRows) : ∃ i : Instr, i.row = r := by
  simp only [opcodeRows, List.mem_cons, List.not_mem_nil, or_false] at hr
  obtain rfl | rfl | rfl | rfl | rfl | rfl := hr <;> exact ⟨_, rfl⟩

theorem row_matches_of_decode {w : Word} {i : Instr} (h : decode w = .op i) : i.row.matches w = true := by
  rw [← encode_of_decode h]
  exact row_matches_encode i

/-- Settles O3: matching a row gives the micro-op, whose row is that one; the operands are read off the encoding. -/
theorem decodeFollowsOpcodeMap : Obligations.DecodeFollowsOpcodeMap := by
  have hrow (w : Word) (r : OpRow) (hr : r ∈ opcodeRows) (hm : r.matches w = true) : ∃ i, decode w = .op i ∧ i.row = r := by
    obtain ⟨i, rfl⟩ := exists_row_of_mem hr
    exact decode_of_matches i hm
  refine ⟨rfl, hrow, fun w hnone => ?_, fun w r r' hr hr' hm hm' => ?_, fun w t8 h => ?_, fun w c3 h => ?_⟩
  · cases hd : decode w with
    | op i =>
      have hunmatched := hnone i.row (row_mem_opcodeRows i)
      rw [row_matches_of_decode hd] at hunmatched
      cases hunmatched
    | illegal e => exact ⟨e, rfl⟩
  · obtain ⟨i, hi, rfl⟩ := hrow w r hr hm
    obtain ⟨j, hj, rfl⟩ := hrow w r' hr' hm'
    rw [hi] at hj
    cases hj
    rfl
  · rw [← encode_of_decode h, encode_wait_toNat]
    omega
  · rw [← encode_of_decode h, encode_setc_toNat]
    omega

end Sys2Proof
end

/-! Proofs: the ROM and `TARGET_ABS` of a configuration (30_encoding.md R66 to R73). -/
section
namespace Sys2Proof

/-! ### The slots of a configuration -/

/-- The entries 0 to 26: DISP and the three line programs (R66 to R69). -/
def Config.programs (c : Config) : List Slot := [Slot.plain .disp] ++ c.activeProgram ++ c.edgeProgram ++ plainProgram

theorem Config.slots_eq (c : Config) : c.slots = c.programs ++ List.replicate 5 reservedSlot := rfl

theorem Config.length_programs (c : Config) : c.programs.length = 27 := by
  simp [programs, activeProgram, bandSlots, edgeProgram, plainProgram]

/-- The 32 entries in a row (R67 to R70). -/
theorem Config.slots_listed (c : Config) :
    c.slots =
      [.plain .disp, .wait (c.bandStart 0), .plain (.setc c.bandColors[0]), .wait (c.bandStart 1), .plain (.setc c.bandColors[1]),
        .wait (c.bandStart 2), .plain (.setc c.bandColors[2]), .wait (c.bandStart 3), .plain (.setc c.bandColors[3]),
        .wait (c.bandStart 4), .plain (.setc c.bandColors[4]), .wait (c.bandStart 5), .plain (.setc c.bandColors[5]),
        .wait (c.bandStart 6), .plain (.setc c.bandColors[6]), .wait (c.bandStart 7), .plain (.setc c.bandColors[7]),
        .wait c.activeEnd, .plain (.setc 0), .plain .adv, .plain .ret, .wait c.activeStart, .plain .tgls, .plain .adv,
        .plain .ret, .plain .adv, .plain .ret, reservedSlot, reservedSlot, reservedSlot, reservedSlot, reservedSlot] := by
  simp [slots, activeProgram, bandSlots, edgeProgram, plainProgram]

theorem Config.length_slots (c : Config) : c.slots.length = 32 := by rw [slots_listed]; rfl

theorem Config.lt_length_slots (c : Config) {k : Nat} (hk : k < 32) : k < c.slots.length :=
  hk.trans_eq c.length_slots.symm

theorem Config.rom_toList (c : Config) : c.rom.toList = c.slots.map Slot.word := rfl

theorem Config.targetAbs_toList (c : Config) : c.targetAbs.toList = c.slots.map Slot.target := rfl

theorem Config.rom_getElem_eq (c : Config) {k : Nat} (hk : k < 32) : c.rom[k] = (c.slots[k]'(c.lt_length_slots hk)).word := by
  have hget := Vector.getElem_toList (xs := c.rom) (i := k) (hk.trans_eq c.rom.length_toList.symm)
  simpa only [rom_toList, List.getElem_map] using hget.symm

theorem Config.targetAbs_getElem_eq (c : Config) {k : Nat} (hk : k < 32) :
    c.targetAbs[k] = (c.slots[k]'(c.lt_length_slots hk)).target := by
  have hget := Vector.getElem_toList (xs := c.targetAbs) (i := k) (hk.trans_eq c.targetAbs.length_toList.symm)
  simpa only [targetAbs_toList, List.getElem_map] using hget.symm

/-- An entry of a line program: a WAIT for one of the targets of the line, or a micro-op that is no WAIT (R68, R69). -/
inductive Config.ProgramSlot (c : Config) : Slot → Prop
  | wait {T : Nat} (hT : T ∈ c.activeTargets) : c.ProgramSlot (Slot.wait T)
  | plain {i : Instr} (hi : ∀ t8, i ≠ .wait t8) : c.ProgramSlot (Slot.plain i)

theorem Config.bandStart_mem_activeTargets (c : Config) (k : Fin 8) : c.bandStart k ∈ c.activeTargets := by
  fin_cases k <;> simp [Config.activeTargets]

theorem Config.activeStart_mem_activeTargets (c : Config) : c.activeStart ∈ c.activeTargets := by
  have hstart : c.bandStart 0 = c.activeStart := by simp [Config.bandStart]
  exact hstart ▸ c.bandStart_mem_activeTargets 0

theorem Config.activeEnd_mem_activeTargets (c : Config) : c.activeEnd ∈ c.activeTargets := by simp [Config.activeTargets]

theorem Config.programSlot_of_mem_programs (c : Config) : ∀ s ∈ c.programs, c.ProgramSlot s := by
  have hband (k : Fin 8) := ProgramSlot.wait (c.bandStart_mem_activeTargets k)
  have hend := ProgramSlot.wait c.activeEnd_mem_activeTargets
  have hstart := ProgramSlot.wait c.activeStart_mem_activeTargets
  have hsetc (c3 : Colour) : c.ProgramSlot (Slot.plain (.setc c3)) := .plain nofun
  have htgls : c.ProgramSlot (Slot.plain .tgls) := .plain nofun
  have hadv : c.ProgramSlot (Slot.plain .adv) := .plain nofun
  have hret : c.ProgramSlot (Slot.plain .ret) := .plain nofun
  have hdisp : c.ProgramSlot (Slot.plain .disp) := .plain nofun
  simp only [programs, activeProgram, bandSlots, edgeProgram, plainProgram, List.forall_mem_append, List.forall_mem_cons,
    List.not_mem_nil, false_implies, implies_true, and_true, hband, hend, hstart, hsetc, htgls, hadv, hret, hdisp]

theorem Config.slots_mem_cases (c : Config) {s : Slot} (hs : s ∈ c.slots) : c.ProgramSlot s ∨ s = reservedSlot := by
  rw [slots_eq, List.mem_append] at hs
  exact hs.imp (c.programSlot_of_mem_programs s) List.eq_of_mem_replicate

/-- The word of every entry of a line program is one of the encoder's. -/
theorem Config.ProgramSlot.exists_encode {c : Config} {s : Slot} (hs : c.ProgramSlot s) : ∃ i, s.word = encode i := by
  cases hs with
  | @wait T hT => exact ⟨.wait (BitVec.ofNat 8 (T % 256)), rfl⟩
  | @plain i hi => exact ⟨i, rfl⟩

/-- The ROM holds a micro-op at every index from 0 to 26 (R66 to R69). -/
theorem Config.decode_rom_of_le (c : Config) {k : Nat} (hk : k ≤ 26) : ∃ i, decode c.rom[k] = .op i := by
  have hprog : k < c.programs.length := (Nat.lt_succ_of_le hk).trans_eq c.length_programs.symm
  have hslot : c.slots[k]'(c.lt_length_slots (by omega)) = c.programs[k] := List.getElem_append_left hprog
  obtain ⟨i, hi⟩ := (c.programSlot_of_mem_programs _ (List.getElem_mem hprog)).exists_encode
  exact ⟨i, by rw [c.rom_getElem_eq (by omega), hslot, hi, decode_encode]⟩

/-- The last entry of the line programs is the RET of `P_PLAIN` (R69). -/
theorem Config.decode_rom_last (c : Config) : decode c.rom[26] = .op .ret := by
  simp only [rom_getElem_eq, slots_listed]
  exact decode_encode .ret

/-! ### Targets -/

theorem Config.bandStart_lt_succ {c : Config} (hwf : c.wellFormed = true) (k : Nat) : c.bandStart k < c.bandStart (k + 1) := by
  obtain ⟨⟨-, -, hband, -⟩, -⟩ := c.wellFormed_iff.mp hwf
  simp only [bandStart, Nat.succ_mul]
  omega

/-- The last band has room before `ACTIVE_END`, because the eight of them fit the active part of the line (R9). -/
theorem Config.bandStart_seven_lt_activeEnd {c : Config} (hwf : c.wellFormed = true) : c.bandStart 7 < c.activeEnd := by
  obtain ⟨⟨-, -, hband, -⟩, hbands⟩ := c.wellFormed_iff.mp hwf
  have hfit : c.bandW * 8 ≤ c.hActiveTicks := by
    rw [← hbands]
    exact Nat.div_mul_le_self _ _
  simp only [bandStart, activeEnd]
  omega

theorem Config.activeTargets_pairwise {c : Config} (hwf : c.wellFormed = true) : c.activeTargets.Pairwise (· < ·) := by
  have hlt := bandStart_lt_succ hwf
  rw [← List.isChain_iff_pairwise]
  simp only [activeTargets, List.isChain_cons_cons, List.isChain_singleton, and_true]
  exact ⟨hlt 0, hlt 1, hlt 2, hlt 3, hlt 4, hlt 5, hlt 6, bandStart_seven_lt_activeEnd hwf⟩

theorem Config.activeTargets_lt_period {c : Config} (hwf : c.wellFormed = true) {T : Nat} (hT : T ∈ c.activeTargets) :
    T < c.hFullLineNbTicks := by
  obtain ⟨⟨-, -, -, hend, -⟩, -⟩ := c.wellFormed_iff.mp hwf
  have hsplit : c.activeTargets = c.activeTargets.dropLast ++ [c.activeEnd] := rfl
  have hpair := activeTargets_pairwise hwf
  rw [hsplit, List.pairwise_append] at hpair
  obtain ⟨-, -, hbefore⟩ := hpair
  rw [hsplit, List.mem_append, List.mem_singleton] at hT
  obtain hT | rfl := hT
  · exact (hbefore T hT _ (List.mem_singleton_self _)).trans hend
  · exact hend

/-- Up to the end of `P_ACTIVE` the targets are those of its WAITs, in ROM order (R68). -/
theorem Config.targets_of_activeProgram (c : Config) : (c.slots.take 21).filterMap Slot.target = c.activeTargets := by
  rw [slots_listed]
  rfl

theorem Config.target_lt_target {c : Config} (hwf : c.wellFormed = true) {i j T U : Nat} (hij : i < j) (hj : j ≤ 20)
    (hT : (c.slots[i]'(c.lt_length_slots (by omega))).target = some T)
    (hU : (c.slots[j]'(c.lt_length_slots (by omega))).target = some U) : T < U := by
  have hpair := activeTargets_pairwise hwf
  rw [← targets_of_activeProgram, List.pairwise_filterMap, List.pairwise_iff_getElem] at hpair
  have hlen : (c.slots.take 21).length = 21 := by rw [List.length_take, length_slots]; rfl
  refine hpair i j (by omega) (by omega) hij T ?_ U ?_
  · rwa [List.getElem_take]
  · rwa [List.getElem_take]

theorem decode_reservedSlot : decode reservedSlot.word = .illegal (.reservedOp 0) := rfl

/-- An entry with a target is the WAIT for it (R73). -/
theorem Config.eq_wait_of_target {c : Config} {s : Slot} (hs : s ∈ c.slots) {T : Nat} (hT : s.target = some T) :
    T ∈ c.activeTargets ∧ s = Slot.wait T := by
  obtain hs | rfl := c.slots_mem_cases hs
  · cases hs with
    | wait hmem =>
      cases hT
      exact ⟨hmem, rfl⟩
    | plain hi => cases hT
  · cases hT

/-- A WAIT entry has a target (R73). -/
theorem Config.exists_target_of_wait {c : Config} {s : Slot} (hs : s ∈ c.slots) {t8 : BitVec 8}
    (hd : decode s.word = .op (.wait t8)) : ∃ T, s.target = some T := by
  obtain hs | rfl := c.slots_mem_cases hs
  · cases hs with
    | wait hmem => exact ⟨_, rfl⟩
    | plain hi =>
      have heq := (decode_encode _).symm.trans hd
      cases heq
      exact absurd rfl (hi t8)
  · rw [decode_reservedSlot] at hd
    cases hd

/-- Settles O7: an entry with a target is a WAIT for one of `P_ACTIVE`'s targets, which ascend to `ACTIVE_END` (R11). -/
theorem targetsMatchTheirWaits : Obligations.TargetsMatchTheirWaits := by
  intro c hwf
  simp only [Fin.getElem_fin, c.rom_getElem_eq, c.targetAbs_getElem_eq]
  refine ⟨fun i T hT => ?_, fun i t8 hd => Config.exists_target_of_wait (List.getElem_mem _) hd, fun i j T U hij hj hT hU => ?_⟩
  · obtain ⟨hmem, hslot⟩ := Config.eq_wait_of_target (List.getElem_mem _) hT
    rw [hslot]
    refine ⟨Config.activeTargets_lt_period hwf hmem, ?_, _, decode_encode _⟩
    simp only [Slot.wait, encode_wait_toNat, BitVec.toNat_ofNat]
    omega
  · exact Config.target_lt_target hwf hij hj hT hU

/-! ### The default ROM (R71) -/

theorem Config.slots_of_defaultTables {c : Config} (h : c.defaultTables) (hcolors : c.bandColors = #v[0, 1, 2, 4, 6, 3, 5, 7]) :
    c.slots = [.plain .disp, .wait 91, .plain (.setc 0), .wait 141, .plain (.setc 1), .wait 191, .plain (.setc 2), .wait 241,
      .plain (.setc 4), .wait 291, .plain (.setc 6), .wait 341, .plain (.setc 3), .wait 391, .plain (.setc 5), .wait 441,
      .plain (.setc 7), .wait 497, .plain (.setc 0), .plain .adv, .plain .ret, .wait 91, .plain .tgls, .plain .adv, .plain .ret,
      .plain .adv, .plain .ret, reservedSlot, reservedSlot, reservedSlot, reservedSlot, reservedSlot] := by
  obtain ⟨hsync, hbp, hactive, -, -, -, -, -, -, hbands⟩ := h
  simp [slots_listed, bandStart, activeEnd, activeStart, bandW, hsync, hbp, hactive, hbands, hcolors]

/-- Settles O6: with the default tables the slots are the table's lines, and their words, micro-ops and targets are computed. -/
theorem defaultRomIsTheTable : Obligations.DefaultRomIsTheTable := by
  intro c h hcolors
  rw [Config.rom_toList, Config.targetAbs_toList, Config.slots_of_defaultTables h hcolors]
  exact ⟨rfl, rfl, rfl⟩

end Sys2Proof
end

/-! Proofs: issue (43_signal_driver.md R106, R107), and the indices that the line programs reach (30_encoding.md R65 to R69). -/
section
namespace Sys2Proof.Machine

variable {s t w : State}

/-! ### The state that a tick issues from -/

theorem issuing_cases (h : s.issuing = some w) :
    s.inited = true ∧ ((s.atSequencer.enters = true ∧ w = s.atSequencer.enterEvent) ∨
      (s.atSequencer.busy = true ∧ s.atSequencer.opcnt = 0 ∧ w = s.atSequencer)) := by
  cases hi : s.inited <;> simp only [State.issuing, hi, Bool.false_eq_true, if_false, if_true, reduceCtorEq] at h
  refine ⟨rfl, ?_⟩
  split at h
  case isTrue henters => exact .inl ⟨henters, by simpa using h.symm⟩
  case isFalse =>
    split at h
    case isTrue hruns =>
      rw [Bool.and_eq_true, decide_eq_true_eq] at hruns
      exact .inr ⟨hruns.1, hruns.2, by simpa using h.symm⟩
    case isFalse => cases h

theorem enters_iff (w : State) :
    w.enters = true ↔ w.busy = false ∧ w.pending = true ∧ w.gie = true ∧ w.entrycnt = 0 := by
  simp [State.enters, and_assoc]

theorem sequencer_of_enters (h : w.enters = true) : sequencer w = issue w.enterEvent := by
  obtain ⟨hbusy, hpending, hgie, hentry⟩ := (enters_iff w).mp h
  simp [sequencer, hbusy, hpending, hgie, hentry]

theorem sequencer_of_idle (hbusy : w.busy = false) (hnone : (w.pending && w.gie) = false) : sequencer w = .next w := by
  simp [sequencer, hbusy, hnone]

theorem sequencer_of_entry_running (hbusy : w.busy = false) (hpending : w.pending = true) (hgie : w.gie = true)
    (hentry : w.entrycnt ≠ 0) : sequencer w = .next { w with entrycnt := w.entrycnt - 1 } := by
  simp only [sequencer, hbusy, hpending, hgie, hentry, Bool.not_false, Bool.and_self, if_true, if_false]

theorem sequencer_of_op_running (hbusy : w.busy = true) (hop : 0 < w.opcnt) :
    sequencer w = .next { w with opcnt := w.opcnt - 1 } := by
  simp [sequencer, hbusy, hop]

theorem sequencer_of_busy (hbusy : w.busy = true) (hop : w.opcnt = 0) : sequencer w = issue w := by
  simp [sequencer, hbusy, hop]

theorem sequencer_of_issuing (h : s.issuing = some w) : sequencer s.atSequencer = issue w := by
  obtain ⟨-, ⟨henters, rfl⟩ | ⟨hbusy, hop, rfl⟩⟩ := issuing_cases h
  · exact sequencer_of_enters henters
  · exact sequencer_of_busy hbusy hop

/-- A Sequencer that is busy with no micro-op running stands inside a line program (R33). -/
theorem seqPc_ne_idlePc (hbusy : w.busy = true) (hop : w.opcnt = 0) : w.seqPc ≠ idlePc :=
  ((busy_iff w).mp hbusy).resolve_right (not_not.mpr hop)

/-- A tick that issues is the issue, then the Frame Clock and the end of the tick (R106). -/
theorem step_of_issuing (hwf : s.cfg.wellFormed = true) (h : s.issuing = some w) :
    step s = andThen (issue w) State.afterSequencer := by
  obtain ⟨hi, -⟩ := issuing_cases h
  rw [step_inited hwf hi, sequencer_of_issuing h]

theorem issue_illegal {e : Illegal} (hd : decode (w.romWord w.seqPc) = .illegal e) : issue w = .next w.abandon := by
  rw [issue, hd]

/-! ### Indices of the line programs -/

@[simp] theorem advance_seqPc (s : State) : s.advance.seqPc = s.seqPc := by
  obtain ⟨-, h⟩ | ⟨-, -, h⟩ | ⟨-, -, -, h⟩ := advance_cases s <;> simp only [h, raise_seqPc]

theorem exec_seqPc {i : Instr} (h : exec i s = .next t) :
    (i = .ret ∧ t.seqPc = idlePc) ∨ (i = .disp ∧ t.seqPc = select s.phase s.linesRem) ∨
      (i ≠ .ret ∧ t.seqPc = s.seqPc + 1) := by
  cases i with
  | wait t8 => cases h; split <;> exact .inr (.inr ⟨nofun, rfl⟩)
  | adv => cases h; exact .inr (.inr ⟨nofun, congrArg (· + 1) (advance_seqPc s)⟩)
  | setc c3 => cases h; exact .inr (.inr ⟨nofun, rfl⟩)
  | tgls => cases h; exact .inr (.inr ⟨nofun, rfl⟩)
  | ret => cases h; exact .inl ⟨rfl, rfl⟩
  | disp => cases h; exact .inr (.inl ⟨rfl, rfl⟩)

/-- The block issues from `w`: its ROM is its configuration's, and it fetches at the event vector or in a line program. -/
structure State.AtProgram (w : State) : Prop where
  rom : w.rom = w.cfg.rom
  pc : w.seqPc.toNat ≤ 26

theorem State.AtProgram.romWord_eq (hw : w.AtProgram) : w.romWord w.seqPc = w.cfg.rom[w.seqPc.toNat] := by
  rw [State.romWord]
  simp only [hw.rom]

theorem State.AtProgram.decode_op (hw : w.AtProgram) : ∃ i, decode (w.romWord w.seqPc) = .op i := by
  rw [hw.romWord_eq]
  exact w.cfg.decode_rom_of_le hw.pc

theorem State.AtProgram.exec_of_issue (hw : w.AtProgram) (h : issue w = .next t) :
    ∃ i, decode (w.romWord w.seqPc) = .op i ∧ exec i w = .next t := by
  obtain ⟨i, hi⟩ := hw.decode_op
  obtain hop | ⟨e, he, -⟩ := issue_cases h
  · exact hop
  · rw [hi] at he
    cases he

/-- Where the entry at `SEQ_PC` is no RET, the next index is still one of a line program: the last entry is a RET (R69). -/
theorem State.AtProgram.next_mem (hw : w.AtProgram) {i : Instr} (hd : decode (w.romWord w.seqPc) = .op i) (hi : i ≠ .ret) :
    1 ≤ (w.seqPc + 1).toNat ∧ (w.seqPc + 1).toNat ≤ 26 := by
  have hne : w.seqPc.toNat ≠ 26 := by
    intro hlast
    rw [hw.romWord_eq] at hd
    simp only [hlast, Config.decode_rom_last] at hd
    cases hd
    exact hi rfl
  have hle := hw.pc
  bv_omega

theorem State.AtProgram.seqPcLegal (hw : w.AtProgram) (h : issue w = .next t) : t.seqPcLegal := by
  obtain ⟨i, hd, hexec⟩ := hw.exec_of_issue h
  obtain ⟨-, hpc⟩ | ⟨-, hpc⟩ | ⟨hi, hpc⟩ := exec_seqPc hexec
  · exact .inl hpc
  · exact .inr (hpc ▸ select_mem w.phase w.linesRem)
  · exact .inr (hpc ▸ hw.next_mem hd hi)

theorem enterEvent_atProgram (hrom : w.rom = w.cfg.rom) : w.enterEvent.AtProgram := ⟨hrom, Nat.zero_le _⟩

theorem atProgram_of_busy (hrom : w.rom = w.cfg.rom) (hpc : w.seqPcLegal) (hbusy : w.busy = true) (hop : w.opcnt = 0) :
    w.AtProgram := by
  obtain ⟨-, hle⟩ := hpc.resolve_left (seqPc_ne_idlePc hbusy hop)
  exact ⟨hrom, hle⟩

/-- The Sequencer of a block in a line program counts, or does nothing, or issues from a line program (R106 phase 2). -/
theorem sequencer_program_cases (hrom : w.rom = w.cfg.rom) (hpc : w.seqPcLegal) (h : sequencer w = .next t) :
    (∃ e n, t = { w with entrycnt := e, opcnt := n }) ∨
      ∃ v, (v = w ∨ v = w.enterEvent) ∧ v.AtProgram ∧ issue v = .next t := by
  obtain ⟨-, -, rfl⟩ | ⟨-, -, -, -, rfl⟩ | ⟨-, hissue⟩ | ⟨-, -, rfl⟩ | ⟨hbusy, hop, hissue⟩ := sequencer_cases h
  · exact .inl ⟨_, _, rfl⟩
  · exact .inl ⟨_, _, rfl⟩
  · exact .inr ⟨_, .inr rfl, enterEvent_atProgram hrom, hissue⟩
  · exact .inl ⟨_, _, rfl⟩
  · exact .inr ⟨_, .inl rfl, atProgram_of_busy hrom hpc hbusy hop, hissue⟩

theorem sequencer_seqPcLegal (hrom : w.rom = w.cfg.rom) (hpc : w.seqPcLegal) (h : sequencer w = .next t) : t.seqPcLegal := by
  obtain ⟨e, n, rfl⟩ | ⟨v, -, hv, hissue⟩ := sequencer_program_cases hrom hpc h
  · exact hpc
  · exact hv.seqPcLegal hissue

theorem atSequencer_seqPcLegal (hpc : s.seqPcLegal) : s.atSequencer.seqPcLegal := by
  simpa only [State.seqPcLegal, atSequencer_seqPc] using hpc

theorem atSequencer_rom_eq (hrom : s.rom = s.cfg.rom) : s.atSequencer.rom = s.atSequencer.cfg.rom := by
  rw [atSequencer_rom, atSequencer_cfg, hrom]

/-- Settles O59: the tables stand still, and `SEQ_PC` goes from index to index within a line program, to its RET. -/
theorem onProgramIsKept : Obligations.OnProgramIsKept := by
  intro s t ⟨hwf, hrom, hpc, hidle⟩ h
  obtain ⟨hcfg, hromKept, -⟩ := (tickInvariant_sameTables s).step ⟨rfl, rfl, rfl⟩ h
  refine ⟨hcfg ▸ hwf, by rw [hromKept, hcfg, hrom], ?_, ?_⟩
  · obtain ⟨-, ⟨-, -, rfl⟩ | ⟨-, -, rfl⟩ | ⟨-, u, hu, rfl⟩⟩ := step_cases h
    · exact .inl rfl
    · exact hpc
    · have hlegal := sequencer_seqPcLegal (atSequencer_rom_eq hrom) (atSequencer_seqPcLegal hpc) hu
      simpa only [State.afterSequencer, State.seqPcLegal, endTick_seqPc, frameClock_seqPc] using hlegal
  · intro hnot
    obtain ⟨-, ⟨-, -, rfl⟩ | ⟨-, hi, rfl⟩ | ⟨hi, -⟩⟩ := step_cases h
    · cases hnot
    · exact hidle hi
    · rw [tickInvariant_inited.step hi h] at hnot
      cases hnot

/-! ### `ILLEGAL_OP` -/

theorem issuing_atProgram (hs : s.OnProgram) (h : s.issuing = some w) : w.AtProgram := by
  obtain ⟨-, hrom, hpc, -⟩ := hs
  obtain ⟨-, ⟨-, rfl⟩ | ⟨hbusy, hop, rfl⟩⟩ := issuing_cases h
  · exact enterEvent_atProgram (atSequencer_rom_eq hrom)
  · exact atProgram_of_busy (atSequencer_rom_eq hrom) (atSequencer_seqPcLegal hpc) hbusy hop

theorem raised_raise_of_ne (s : State) {f g : FaultCode} (h : f ≠ g) : (s.raise f).raised g = s.raised g := by
  rw [raised_raise, decide_eq_false h, Bool.or_false]

section
variable {f : FaultCode}

theorem raised_ite_raise (s : State) (b : Bool) {g : FaultCode} (h : g ≠ f) :
    (if b then s.raise g else s).raised f = s.raised f := by
  cases b
  · rfl
  · exact raised_raise_of_ne s h

theorem deliver_raised (s : State) (hoverrun : f ≠ .tvOverrun) (hlost : f ≠ .tvLostEvent) :
    s.deliver.raised f = s.raised f := by
  unfold State.deliver
  split
  · exact (raised_ite_raise _ _ hlost.symm).trans (raised_ite_raise s _ hoverrun.symm)
  · rfl

/-- Before the Sequencer acts, a tick raises at most the faults of a second INIT and of an event's delivery (R118, R119, R137). -/
theorem atSequencer_raised (s : State) (hreinit : f ≠ .peReinit) (hoverrun : f ≠ .tvOverrun) (hlost : f ≠ .tvLostEvent) :
    s.atSequencer.raised f = s.raised f :=
  (deliver_raised _ hoverrun hlost).trans (raised_ite_raise s.popStrobe s.strobe hreinit.symm)

theorem advance_raised (s : State) (hinv : f ≠ .invariant) : s.advance.raised f = s.raised f := by
  obtain ⟨-, h⟩ | ⟨-, -, h⟩ | ⟨-, -, -, h⟩ := advance_cases s <;> rw [h]
  · exact raised_raise_of_ne s hinv.symm
  · rfl
  · rfl

/-- A micro-op raises at most `TV_WAIT_MISSED` and `INVARIANT` (R78, R85). -/
theorem exec_raised {i : Instr} (h : exec i s = .next t) (hmissed : f ≠ .tvWaitMissed) (hinv : f ≠ .invariant) :
    t.raised f = s.raised f := by
  obtain ⟨r, c, level, pc, n, d, hr, rfl⟩ := exec_cases h
  change r.raised f = s.raised f
  obtain rfl | rfl | ⟨-, rfl⟩ := hr
  · rfl
  · exact raised_raise_of_ne s hmissed.symm
  · exact advance_raised s hinv

end

/-- In a line program the Sequencer issues micro-ops only, and no micro-op raises `ILLEGAL_OP` (R65). -/
theorem sequencer_raised_illegalOp (hrom : w.rom = w.cfg.rom) (hpc : w.seqPcLegal) (h : sequencer w = .next t) :
    t.raised .illegalOp = w.raised .illegalOp := by
  obtain ⟨e, n, rfl⟩ | ⟨v, hv, hprog, hissue⟩ := sequencer_program_cases hrom hpc h
  · rfl
  · obtain ⟨i, -, hexec⟩ := hprog.exec_of_issue hissue
    rw [exec_raised hexec (by decide) (by decide)]
    obtain rfl | rfl := hv <;> rfl

theorem step_raised_illegalOp (hs : s.OnProgram) (h : step s = .next t) : t.raised .illegalOp = s.raised .illegalOp := by
  obtain ⟨-, hrom, hpc, -⟩ := hs
  obtain ⟨-, ⟨-, -, rfl⟩ | ⟨-, -, rfl⟩ | ⟨-, u, hu, rfl⟩⟩ := step_cases h
  · rfl
  · rfl
  · calc u.afterSequencer.raised .illegalOp = u.raised .illegalOp := by
          rw [State.raised, State.afterSequencer, endTick_faults, frameClock_faults, State.raised]
      _ = s.atSequencer.raised .illegalOp :=
          sequencer_raised_illegalOp (atSequencer_rom_eq hrom) (atSequencer_seqPcLegal hpc) hu
      _ = s.raised .illegalOp := atSequencer_raised s (by decide) (by decide) (by decide)

theorem ticks_raised_illegalOp (n : Nat) (hs : s.OnProgram) (h : ticks n s = .next t) :
    t.raised .illegalOp = s.raised .illegalOp := by
  induction n generalizing s with
  | zero =>
    cases h
    rfl
  | succ n ih =>
    obtain ⟨u, hu, ht⟩ := ticks_succ_next h
    exact (ih (onProgramIsKept s u hs hu) ht).trans (step_raised_illegalOp hs hu)

/-- Settles O25: the tick that issues an illegal word is `State.abandon` with the clock after it; with the configuration's ROM
every index that a tick issues from holds a micro-op. -/
theorem illegalWordAbandonsTheProgram : Obligations.IllegalWordAbandonsTheProgram := by
  refine ⟨fun s w e hwf hw hd => ?_, fun s w hs hw => (issuing_atProgram hs hw).decode_op, fun n s hs hclear => ?_⟩
  · rw [step_of_issuing hwf hw, issue_illegal hd]
    rfl
  · obtain ⟨t, ht⟩ := ticks_total hs.1 n
    exact ⟨t, ht, (ticks_raised_illegalOp n hs ht).trans hclear⟩

end Sys2Proof.Machine
end

/-! Proofs: what the ROM is read for. A step reads it at the index it issues from, and never at `IDLE_PC` (30_encoding.md R70;
43_signal_driver.md R106). -/
section
namespace Sys2Proof.Machine

variable {s t w : State}

/-- The same block with another ROM. -/
def State.withRom (s : State) (r : Vector Word 32) : State := { s with rom := r }

variable (r : Vector Word 32)

theorem raiseIf_withRom (s : State) (p : Prop) [Decidable p] (f : FaultCode) :
    (if p then (s.withRom r).raise f else s.withRom r) = (if p then s.raise f else s).withRom r := by
  split <;> rfl

theorem deliver_withRom (s : State) : (s.withRom r).deliver = s.deliver.withRom r := by
  cases he : s.evtFlag && s.evtIE with
  | false => rw [deliver_none s he, deliver_none (s.withRom r) he]
  | true =>
    rw [State.deliver, State.deliver, if_pos he, if_pos (show ((s.withRom r).evtFlag && (s.withRom r).evtIE) = true from he)]
    dsimp only
    rw [raiseIf_withRom, raiseIf_withRom]
    rfl

theorem atSequencer_withRom (s : State) : (s.withRom r).atSequencer = s.atSequencer.withRom r :=
  (congrArg (fun u => u.latchPins.deliver) (raiseIf_withRom r s.popStrobe (s.strobe = true) .peReinit)).trans
    (deliver_withRom r (if s.strobe then s.popStrobe.raise .peReinit else s.popStrobe).latchPins)

theorem afterSequencer_withRom (s : State) : (s.withRom r).afterSequencer = s.afterSequencer.withRom r := by
  unfold State.afterSequencer State.frameClock
  rw [apply_ite State.endTick, apply_ite State.endTick, apply_ite (State.withRom · r)]
  rfl

theorem advance_withRom (s : State) : (s.withRom r).advance = s.advance.withRom r := by
  unfold State.advance
  rw [apply_ite (State.withRom · r), apply_ite (State.withRom · r)]
  rfl

/-- No micro-op reads the ROM: a WAIT has its target from `TARGET_ABS` (R73, R77). -/
theorem exec_withRom {i : Instr} (h : exec i s = .next t) : exec i (s.withRom r) = .next (t.withRom r) := by
  cases i with
  | wait t8 =>
    cases h
    rw [apply_ite (State.withRom · r)]
    rfl
  | adv =>
    cases h
    rw [exec_adv, advance_withRom]
    rfl
  | _ =>
    cases h
    rfl

/-- The ROMs agree at every index that a tick can issue from (R106). -/
def AgreeBelowIdle (r r' : Vector Word 32) : Prop := ∀ i : RomIndex, i ≠ idlePc → r[i.toNat] = r'[i.toNat]

variable {r}

theorem issue_withRom (hr : r[w.seqPc.toNat] = w.rom[w.seqPc.toNat]) (h : issue w = .next t) :
    issue (w.withRom r) = .next (t.withRom r) := by
  have hword : (w.withRom r).romWord (w.withRom r).seqPc = w.romWord w.seqPc := hr
  rw [issue, hword]
  obtain ⟨i, hd, hexec⟩ | ⟨e, hd, rfl⟩ := issue_cases h
  · rw [hd]
    exact exec_withRom r hexec
  · rw [hd]
    rfl

theorem sequencer_withRom (hr : AgreeBelowIdle r w.rom) (h : sequencer w = .next t) :
    sequencer (w.withRom r) = .next (t.withRom r) := by
  obtain ⟨hbusy, hnone, rfl⟩ | ⟨hbusy, hpending, hgie, hentry, rfl⟩ | ⟨henters, hissue⟩ | ⟨hbusy, hop, rfl⟩ |
    ⟨hbusy, hop, hissue⟩ := sequencer_cases h
  · exact sequencer_of_idle (w := t.withRom r) hbusy hnone
  · exact sequencer_of_entry_running (w := w.withRom r) hbusy hpending hgie hentry
  · rw [sequencer_of_enters (w := w.withRom r) henters]
    exact issue_withRom (w := w.enterEvent) (hr entryPc (by decide)) hissue
  · exact sequencer_of_op_running (w := w.withRom r) hbusy hop
  · rw [sequencer_of_busy (w := w.withRom r) hbusy hop]
    exact issue_withRom (hr _ (seqPc_ne_idlePc hbusy hop)) hissue

/-- The tick before INIT, with no strobe (R138). -/
theorem step_before_init (hwf : s.cfg.wellFormed = true) (hi : s.inited = false) (hs : s.strobe = false) :
    step s = .next s.popStrobe.endTick := by
  obtain ⟨t, ht⟩ := step_total hwf
  obtain ⟨-, ⟨hstrobe, -⟩ | ⟨-, -, rfl⟩ | ⟨hinited, -⟩⟩ := step_cases ht
  · simp [hs] at hstrobe
  · exact ht
  · simp [hi] at hinited

/-- A step takes every ROM that agrees with the block's own at the indices below `IDLE_PC` to the same outcome. -/
theorem step_withRom (hr : AgreeBelowIdle r s.rom) (h : step s = .next t) : step (s.withRom r) = .next (t.withRom r) := by
  obtain ⟨hwf, ⟨hstrobe, hi, rfl⟩ | ⟨hstrobe, hi, rfl⟩ | ⟨hi, u, hu, rfl⟩⟩ := step_cases h
  · exact step_init (s := s.withRom r) hwf hi hstrobe
  · exact step_before_init (s := s.withRom r) hwf hi hstrobe
  · rw [step_inited (s := s.withRom r) hwf hi, atSequencer_withRom, sequencer_withRom ((atSequencer_rom s).symm ▸ hr) hu]
    exact congrArg _ (afterSequencer_withRom r u)

theorem agreeBelowIdle_set (rom : Vector Word 32) (x : Word) : AgreeBelowIdle (rom.set 31 x) rom := by
  intro i hi
  have hne : 31 ≠ i.toNat := fun h31 => hi (BitVec.eq_of_toNat_eq h31.symm)
  exact Vector.getElem_set_ne _ _ hne

/-- Settles O40: no step reads the word at `IDLE_PC`, and no step writes the ROM. -/
theorem idleIndexIsNeverFetched : Obligations.IdleIndexIsNeverFetched := by
  intro s t t' x h h'
  obtain ⟨-, hrom, -⟩ := (tickInvariant_sameTables s).step ⟨rfl, rfl, rfl⟩ h
  have hstep := step_withRom (agreeBelowIdle_set s.rom x) h
  have heq := h'.symm.trans hstep
  cases heq
  rw [hrom]
  rfl

end Sys2Proof.Machine
end

/-! Proofs: the Waiter (41_waiter.md R75 to R80). -/
section
namespace Sys2Proof.Machine

variable {s t : State} {t8 : BitVec 8}

/-! ### The window and the distance (R76, R77) -/

theorem inWindow_iff {i : RomIndex} {n : BitVec 16} {T : Nat} (hT : s.target i = some T) :
    s.inWindow i n = true ↔ n.toNat ≤ T ∧ T - n.toNat ≤ 255 := by
  simp [State.inWindow, hT]

theorem inWindow_of_target_none {i : RomIndex} (n : BitVec 16) (hT : s.target i = none) : s.inWindow i n = false := by
  simp [State.inWindow, hT]

theorem low8_toNat (v : BitVec 16) : (low8 v).toNat = v.toNat % 256 := by simp [low8]

/-- A distance of at most 255 is what the low bytes of its ends differ by, mod 256. -/
theorem waitDelta_eq {n : BitVec 16} {T : Nat} (ht8 : t8.toNat = T % 256) (hle : n.toNat ≤ T) (hnear : T - n.toNat ≤ 255) :
    waitDelta t8 n = T - n.toNat := by
  rw [waitDelta, BitVec.toNat_sub, low8_toNat, ht8]
  omega

/-- Settles O13: the window of an entry with a target, and the 8-bit difference at a distance below 256. -/
theorem windowAndRemainingDistance : Obligations.WindowAndRemainingDistance := by
  intro s i n T hT
  refine ⟨inWindow_iff hT, fun t8 hwin ht8 => ?_⟩
  obtain ⟨hle, hnear⟩ := (inWindow_iff hT).mp hwin
  exact waitDelta_eq ht8 hle hnear

/-! ### The two outcomes of a WAIT (R75, R78) -/

theorem exec_wait_hit (t8 : BitVec 8) (hwin : s.inWindow s.seqPc s.tcnt = true) :
    exec (.wait t8) s = .next (s.waitHit t8) := by
  rw [exec_wait, if_pos hwin]

theorem exec_wait_miss (t8 : BitVec 8) (hwin : s.inWindow s.seqPc s.tcnt = false) :
    ∃ d, 1 ≤ d ∧ exec (.wait t8) s = .next { s.raise .tvWaitMissed with
      opcnt := d - 1
      seqPc := s.seqPc + 1
      draws := s.draws + 1 } := by
  refine ⟨(s.raise .tvWaitMissed).drawnFrom 1, le_drawnFrom _ 1, ?_⟩
  rw [exec_wait, hwin]
  rfl

/-- Settles O11: in its window a WAIT is `State.waitHit`, outside it a miss of some drawn duration. -/
theorem waitStallsOrMisses : Obligations.WaitStallsOrMisses := by
  intro t8 s T hT
  constructor
  · intro hwin
    exact exec_wait_hit t8 ((inWindow_iff hT).mpr hwin)
  · intro hout
    exact exec_wait_miss t8 (Bool.eq_false_iff.mpr fun hwin => hout ((inWindow_iff hT).mp hwin))

/-- Settles O12: an entry without a target has no window, so its WAIT is a miss. -/
theorem waitWithoutTargetMisses : Obligations.WaitWithoutTargetMisses := fun t8 s hT =>
  exec_wait_miss t8 (inWindow_of_target_none s.tcnt hT)

/-! ### The cost (R79) -/

theorem waitCost_eq (c : Config) (delta : Nat) : c.waitCost delta = delta + c.waitB.ticks := by
  rw [Config.waitCost, Nat.div_add_mod]

/-- Settles O14: quotient and remainder by `WAIT_UNIT` add up to `delta`, and `State.waitHit` loads the cost. -/
theorem waitCostIsAffine : Obligations.WaitCostIsAffine := by
  refine ⟨rfl, fun c delta => ⟨rfl, waitCost_eq c delta⟩, fun t8 s t hwin h => ?_⟩
  cases (exec_wait_hit t8 hwin).symm.trans h
  rw [waitCost_eq]
  rfl

/-! ### The Frame Clock over a whole tick and over many (R112) -/

@[simp] theorem atSequencer_tcnt (s : State) : s.atSequencer.tcnt = s.tcnt := by unfold State.atSequencer; split <;> simp
@[simp] theorem atSequencer_period (s : State) : s.atSequencer.period = s.period := by
  unfold State.atSequencer; split <;> simp
@[simp] theorem atSequencer_armed (s : State) : s.atSequencer.armed = s.armed := by unfold State.atSequencer; split <;> simp
@[simp] theorem atSequencer_targetAbs (s : State) : s.atSequencer.targetAbs = s.targetAbs := by
  unfold State.atSequencer; split <;> simp

/-- The Frame Clock counts: the block is past INIT, its timer is armed, and its period is one to count by (R112). -/
structure State.Counting (s : State) : Prop where
  inited : s.inited = true
  armed : s.armed = true
  period : s.period ≠ 0

theorem State.Counting.step_tcnt (hs : s.Counting) (h : step s = .next t) :
    t.period = s.period ∧ t.Counting ∧ t.tcnt.toNat = (s.tcnt.toNat + 1) % s.period.toNat := by
  obtain ⟨-, ⟨-, hnot, -⟩ | ⟨-, hnot, -⟩ | ⟨-, u, hu, rfl⟩⟩ := step_cases h
  · simp [hs.inited] at hnot
  · simp [hs.inited] at hnot
  · have hkept := sequencer_frame hu
    have htcnt : u.tcnt = s.tcnt := hkept.tcnt.trans (atSequencer_tcnt s)
    have hperiod : u.period = s.period := hkept.period.trans (atSequencer_period s)
    have harmed : u.armed = true := hkept.armed.trans ((atSequencer_armed s).trans hs.armed)
    have hperiod' : u.afterSequencer.period = s.period := (frameClock_period u).trans hperiod
    refine ⟨hperiod', ⟨tickInvariant_inited.step hs.inited h, (frameClock_armed u).trans harmed, hperiod' ▸ hs.period⟩, ?_⟩
    calc u.afterSequencer.tcnt.toNat = (restart u.tcnt u.period).toNat := congrArg _ (frameClock_on u harmed).1
      _ = (s.tcnt.toNat + 1) % s.period.toNat := by rw [htcnt, hperiod, restart_toNat _ _ hs.period]

theorem State.Counting.ticks_tcnt (hs : s.Counting) (n : Nat) (h : ticks (n + 1) s = .next t) :
    t.tcnt.toNat = (s.tcnt.toNat + (n + 1)) % s.period.toNat := by
  induction n generalizing s with
  | zero =>
    obtain ⟨u, hu, ht⟩ := ticks_succ_next h
    cases ht
    exact (hs.step_tcnt hu).2.2
  | succ n ih =>
    obtain ⟨u, hu, ht⟩ := ticks_succ_next h
    obtain ⟨hperiod, hcounting, htcnt⟩ := hs.step_tcnt hu
    rw [ih hcounting ht, hperiod, htcnt, Nat.mod_add_mod, Nat.add_assoc, Nat.add_comm 1]

/-! ### A stall (R31, R106) -/

/-- While a micro-op runs, no tick issues. -/
theorem issuing_none_of_op_running (hop : 0 < s.opcnt) : s.issuing = none := by
  refine Option.eq_none_iff_forall_ne_some.mpr fun w hw => ?_
  obtain ⟨-, ⟨henters, -⟩ | ⟨-, hzero, -⟩⟩ := issuing_cases hw
  · have hidle := ((enters_iff _).mp henters).1
    rw [atSequencer_busy, busy_eq_false_iff] at hidle
    omega
  · rw [atSequencer_opcnt] at hzero
    omega

theorem step_of_op_running (hwf : s.cfg.wellFormed = true) (hi : s.inited = true) (hop : 0 < s.opcnt) :
    ∃ t, step s = .next t ∧ t.opcnt = s.opcnt - 1 ∧ t.seqPc = s.seqPc := by
  have hbusy : s.atSequencer.busy = true := (atSequencer_busy s).trans ((busy_iff s).mpr (.inr hop.ne'))
  have hseq := sequencer_of_op_running hbusy ((atSequencer_opcnt s).symm ▸ hop)
  refine ⟨_, (step_inited hwf hi).trans (congrArg (andThen · State.afterSequencer) hseq), ?_⟩
  simp [State.afterSequencer]

/-- A stall is counted down tick by tick, whatever else happens in these ticks. -/
theorem ticks_of_op_running (hwf : s.cfg.wellFormed = true) (hi : s.inited = true) (k : Nat) (hk : k ≤ s.opcnt) :
    ∃ t, ticks k s = .next t ∧ t.opcnt = s.opcnt - k ∧ t.seqPc = s.seqPc := by
  induction k generalizing s with
  | zero => exact ⟨s, rfl, rfl, rfl⟩
  | succ k ih =>
    obtain ⟨u, hu, hop, hpc⟩ := step_of_op_running hwf hi (by omega)
    obtain ⟨t, ht, hop', hpc'⟩ := ih (step_cfg hu ▸ hwf) (tickInvariant_inited.step hi hu) (by omega)
    exact ⟨t, (ticks_succ k hu).trans ht, by omega, hpc'.trans hpc⟩

/-! ### The exit of an in-window WAIT (R80) -/

/-- Inside a line program with no micro-op running, the tick issues from where the Sequencer stands. -/
theorem issuing_of_busy (hi : s.inited = true) (hbusy : s.busy = true) (hop : s.opcnt = 0) :
    s.issuing = some s.atSequencer := by
  simp [State.issuing, State.enters, hi, hbusy, hop]

section

variable (hwf : s.cfg.wellFormed = true) (hi : s.inited = true) (hpc : s.seqPc ≠ idlePc) (hop : s.opcnt = 0)
  (hd : decode (s.romWord s.seqPc) = .op (.wait t8)) (hwin : s.inWindow s.seqPc s.tcnt = true)

include hwf hi hpc hop hd hwin

theorem step_of_wait :
    ∃ t, step s = .next t ∧ t.opcnt = s.waitTicks t8 - 1 ∧ t.seqPc = s.seqPc + 1 := by
  have hissuing := issuing_of_busy hi ((busy_iff s).mpr (.inl hpc)) hop
  have hd' : decode (s.atSequencer.romWord s.atSequencer.seqPc) = .op (.wait t8) := by
    simpa [State.romWord] using hd
  have hwin' : s.atSequencer.inWindow s.atSequencer.seqPc s.atSequencer.tcnt = true := by
    simpa [State.inWindow, State.target] using hwin
  have hissue : issue s.atSequencer = .next (s.atSequencer.waitHit t8) := by
    rw [issue, hd']
    exact exec_wait_hit t8 hwin'
  refine ⟨_, (step_of_issuing hwf hissuing).trans (congrArg (andThen · State.afterSequencer) hissue), ?_⟩
  simp [State.afterSequencer, State.waitHit, State.waitTicks]

/-- The ticks of an in-window WAIT: its issue, then its stall. -/
theorem ticks_of_wait {k : Nat} (hk : 1 ≤ k) (hkd : k ≤ s.waitTicks t8) :
    ∃ t, ticks k s = .next t ∧ t.opcnt = s.waitTicks t8 - k ∧ t.seqPc = s.seqPc + 1 := by
  obtain ⟨j, rfl⟩ := Nat.exists_eq_add_of_le' hk
  obtain ⟨u, hu, hop', hpc'⟩ := step_of_wait hwf hi hpc hop hd hwin
  obtain ⟨t, ht, hop'', hpc''⟩ :=
    ticks_of_op_running (step_cfg hu ▸ hwf) (tickInvariant_inited.step hi hu) j (by omega)
  exact ⟨t, (ticks_succ j hu).trans ht, by omega, hpc''.trans hpc'⟩

end

/-- Settles O32: the stall of an in-window WAIT is `T - n + WAIT_B`, counted down from its issue, while the Frame Clock counts
from `n`. -/
theorem waitExitIsDeterministic : Obligations.WaitExitIsDeterministic := by
  intro s t8 T hwf hi harmed hperiod hpc hop hd hT ht8 hle hnear
  have hwin := (inWindow_iff hT).mpr ⟨hle, hnear⟩
  have hcost : s.waitTicks t8 = T - s.tcnt.toNat + s.cfg.waitB.ticks := by rw [State.waitTicks, waitDelta_eq ht8 hle hnear]
  have hpos := s.cfg.waitB.pos
  rw [← hcost]
  constructor
  · obtain ⟨u, hu, hop', hpc'⟩ := ticks_of_wait hwf hi hpc hop hd hwin (by omega) le_rfl
    obtain ⟨m, hm⟩ := Nat.exists_eq_add_of_le' (show 1 ≤ s.waitTicks t8 by omega)
    refine ⟨u, hu, by omega, hpc', ?_⟩
    rw [State.Counting.ticks_tcnt ⟨hi, harmed, hperiod⟩ m (hm ▸ hu), ← hm]
    congr 1
    omega
  · intro k hk hkd
    obtain ⟨v, hv, hop', -⟩ := ticks_of_wait hwf hi hpc hop hd hwin hk hkd.le
    exact ⟨v, hv, issuing_none_of_op_running (by omega)⟩

end Sys2Proof.Machine
end

/-! Proofs: the Phase State Machine (42_phase_machine.md R83 to R89). -/
section
namespace Sys2Proof

/-! ### The cyclic order of the phases (R89) -/

theorem Phase.code_ofCode (b : BitVec 2) : (Phase.ofCode b).code = b := by
  revert b
  decide

/-- Settles O9: every 2-bit code is a phase's, so the successor's code is the sum itself; the switch is its table. -/
theorem phaseSuccessorIsModFour : Obligations.PhaseSuccessorIsModFour := by
  refine ⟨fun p => Phase.code_ofCode _, fun p => ?_, rfl, rfl, rfl, rfl, Phase.code_ofCode⟩
  cases p <;> rfl

/-! ### The lines of a field, from the top of SyncPulse -/

/-- How many lines of a field, which starts at the top of SyncPulse, come before a phase (R7, R22). -/
def Config.linesBefore (c : Config) : Phase → Nat
  | .syncPulse => 0
  | .backPorch => c.vSyncLines
  | .activeVideo => c.vSyncLines + c.vBpLines
  | .frontPorch => c.vSyncLines + c.vBpLines + c.vActiveLines

theorem Config.linesBefore_add_count_le (c : Config) (p : Phase) : c.linesBefore p + c.count p ≤ c.vFullLines := by
  cases p <;> simp only [linesBefore, count, vFullLines] <;> omega

/-- The phases tile the field in their cyclic order. -/
theorem Config.linesBefore_succ4 {c : Config} (hwf : c.wellFormed = true) (p : Phase) :
    c.linesBefore p.succ4 = (c.linesBefore p + c.count p) % c.vFullLines := by
  by_cases hlast : p = .frontPorch
  · subst hlast
    exact (Nat.mod_self c.vFullLines).symm
  · have hnext : c.linesBefore p.succ4 = c.linesBefore p + c.count p := by
      cases p
      case syncPulse => exact (Nat.zero_add c.vSyncLines).symm
      case backPorch => rfl
      case activeVideo => rfl
      case frontPorch => exact absurd rfl hlast
    have hle := c.linesBefore_add_count_le p.succ4
    have hpos := (count_mem hwf p.succ4).1
    rw [← hnext, Nat.mod_eq_of_lt (by omega)]

theorem Config.linesBefore_eq_zero_iff {c : Config} (hwf : c.wellFormed = true) (p : Phase) :
    c.linesBefore p = 0 ↔ p = .syncPulse := by
  have hpos : 1 ≤ c.vSyncLines := (count_mem hwf .syncPulse).1
  cases p <;> simp only [linesBefore, reduceCtorEq, iff_false] <;> omega

namespace Machine

variable {s t w : State}

/-! ### One ADV (R84, R85) -/

theorem advance_of_broken (h : s.linesRem.toNat = 0 ∨ s.cfg.count s.phase < s.linesRem.toNat) :
    s.advance = s.raise .invariant := by
  obtain ⟨-, h'⟩ | ⟨hone, hle, -⟩ | ⟨hzero, -, hle, -⟩ := advance_cases s
  · exact h'
  · have hone' : s.linesRem.toNat = 1 := congrArg BitVec.toNat hone
    omega
  · have hpos : s.linesRem.toNat ≠ 0 := fun h0 => hzero (BitVec.eq_of_toNat_eq h0)
    omega

theorem advance_of_last (hone : s.linesRem.toNat = 1) (hcount : 1 ≤ s.cfg.count s.phase) :
    s.advance = { s with phase := s.phase.succ4, linesRem := BitVec.ofNat 16 (s.cfg.count s.phase.succ4) } := by
  obtain ⟨hbad | hbad, -⟩ | ⟨-, -, h⟩ | ⟨-, hne, -⟩ := advance_cases s
  · simp [hbad] at hone
  · omega
  · exact h
  · exact absurd (BitVec.eq_of_toNat_eq hone) hne

theorem advance_of_more (htwo : 2 ≤ s.linesRem.toNat) (hle : s.linesRem.toNat ≤ s.cfg.count s.phase) :
    s.advance = { s with linesRem := BitVec.ofNat 16 (s.linesRem.toNat - 1) } := by
  obtain ⟨hbad | hbad, -⟩ | ⟨hone, -⟩ | ⟨-, -, -, h⟩ := advance_cases s
  · simp [hbad] at htwo
  · omega
  · simp [hone] at htwo
  · have hpred : s.linesRem - 1 = BitVec.ofNat 16 (s.linesRem.toNat - 1) := by bv_omega
    rw [h, hpred]

/-- An advance skips no phase (R87). -/
theorem advance_phase (s : State) : s.advance.phase = s.phase ∨ s.advance.phase = s.phase.succ4 := by
  obtain ⟨-, h⟩ | ⟨-, -, h⟩ | ⟨-, -, -, h⟩ := advance_cases s <;> rw [h]
  · exact .inl rfl
  · exact .inr rfl
  · exact .inl rfl

/-- Settles O17: the three outcomes of the advance, with the duration that ADV draws. -/
theorem advAdvancesTheLine : Obligations.AdvAdvancesTheLine := by
  intro s
  obtain ⟨hlo, hhi⟩ := drawn_mem s s.cfg.adv.lo s.cfg.adv.hi s.cfg.adv.ordered
  refine ⟨_, hlo, hhi, fun hbroken => ?_, fun hone hcount => ?_, fun htwo hle => ?_⟩
  · rw [exec_adv, advance_of_broken hbroken]
    rfl
  · rw [exec_adv, advance_of_last hone hcount]
    rfl
  · rw [exec_adv, advance_of_more htwo hle]
    rfl

/-- The state after an ADV, which always completes. -/
def State.afterAdv (s : State) : State := s.advance.afterDraw.nextPc.run (s.drawn s.cfg.adv.lo s.cfg.adv.hi)

theorem exec_adv_eq_afterAdv (s : State) : exec .adv s = .next s.afterAdv := exec_adv s

@[simp] theorem afterAdv_phase (s : State) : s.afterAdv.phase = s.advance.phase := rfl
@[simp] theorem afterAdv_linesRem (s : State) : s.afterAdv.linesRem = s.advance.linesRem := rfl
@[simp] theorem afterAdv_cfg (s : State) : s.afterAdv.cfg = s.cfg := (exec_frame (exec_adv_eq_afterAdv s)).cfg

/-- A run of ADV is the iterate of one. -/
theorem advances_eq_iterate (n : Nat) (s : State) : advances n s = .next (State.afterAdv^[n] s) := by
  induction n generalizing s with
  | zero => rfl
  | succ n ih => exact ih s.afterAdv

theorem iterate_afterAdv_cfg (n : Nat) (s : State) : (State.afterAdv^[n] s).cfg = s.cfg :=
  Function.Iterate.rec (fun t => t.cfg = s.cfg) rfl (fun t ht => (afterAdv_cfg t).trans ht) n

/-! ### ADV from a legal line counter (R24, R87, R88) -/

/-- A well-formed configuration and a legal line counter (R24): an ADV takes one line off and raises nothing. -/
structure State.CountsLines (s : State) : Prop where
  wf : s.cfg.wellFormed = true
  lines : s.linesLegal

theorem countsLines_of_top (hwf : s.cfg.wellFormed = true) (htop : s.linesRem.toNat = s.cfg.count s.phase) :
    s.CountsLines :=
  ⟨hwf, htop ▸ (Config.count_mem hwf s.phase).1, htop.le⟩

theorem State.CountsLines.afterAdv_of_last (hs : s.CountsLines) (hone : s.linesRem.toNat = 1) :
    s.afterAdv.phase = s.phase.succ4 ∧ s.afterAdv.linesRem.toNat = s.cfg.count s.phase.succ4 := by
  rw [afterAdv_phase, afterAdv_linesRem, advance_of_last hone (Config.count_mem hs.wf _).1]
  exact ⟨rfl, Config.count_toNat hs.wf _⟩

theorem State.CountsLines.afterAdv_of_more (hs : s.CountsLines) (htwo : 2 ≤ s.linesRem.toNat) :
    s.afterAdv.phase = s.phase ∧ s.afterAdv.linesRem.toNat = s.linesRem.toNat - 1 := by
  rw [afterAdv_phase, afterAdv_linesRem, advance_of_more htwo hs.lines.2]
  exact ⟨rfl, Nat.mod_eq_of_lt ((Nat.sub_le _ 1).trans_lt s.linesRem.isLt)⟩

theorem State.CountsLines.last_or_more (hs : s.CountsLines) : s.linesRem.toNat = 1 ∨ 2 ≤ s.linesRem.toNat := by
  obtain ⟨-, hpos, -⟩ := hs
  omega

theorem State.CountsLines.afterAdv (hs : s.CountsLines) : s.afterAdv.CountsLines := by
  have hwf : s.afterAdv.cfg.wellFormed = true := (afterAdv_cfg s).symm ▸ hs.wf
  obtain hone | htwo := hs.last_or_more
  · obtain ⟨hphase, hlines⟩ := hs.afterAdv_of_last hone
    exact countsLines_of_top hwf (by rw [hlines, hphase, afterAdv_cfg])
  · obtain ⟨hphase, hlines⟩ := hs.afterAdv_of_more htwo
    obtain ⟨-, -, hle⟩ := hs
    refine ⟨hwf, ?_⟩
    rw [State.linesLegal, hphase, hlines, afterAdv_cfg]
    omega

theorem State.CountsLines.iterate (hs : s.CountsLines) (n : Nat) : (State.afterAdv^[n] s).CountsLines :=
  Function.Iterate.rec State.CountsLines hs (fun _ ht => ht.afterAdv) n

/-- Within a phase each ADV takes one line off. -/
theorem State.CountsLines.iterate_within_phase (hs : s.CountsLines) {j : Nat} (hj : j < s.linesRem.toNat) :
    (State.afterAdv^[j] s).phase = s.phase ∧ (State.afterAdv^[j] s).linesRem.toNat = s.linesRem.toNat - j := by
  induction j with
  | zero => exact ⟨rfl, rfl⟩
  | succ j ih =>
    obtain ⟨hphase, hlines⟩ := ih (by omega)
    obtain ⟨hphase', hlines'⟩ := (hs.iterate j).afterAdv_of_more (by omega)
    rw [Function.iterate_succ_apply', hphase', hlines', hphase, hlines]
    exact ⟨rfl, by omega⟩

/-- As many ADV as there are lines left give the top of the next phase. -/
theorem State.CountsLines.iterate_phase (hs : s.CountsLines) :
    (State.afterAdv^[s.linesRem.toNat] s).phase = s.phase.succ4 ∧
      (State.afterAdv^[s.linesRem.toNat] s).linesRem.toNat = s.cfg.count s.phase.succ4 := by
  obtain ⟨k, hk⟩ := Nat.exists_eq_add_of_le' hs.lines.1
  obtain ⟨hphase, hlines⟩ := hs.iterate_within_phase (show k < s.linesRem.toNat by omega)
  have hlast := (hs.iterate k).afterAdv_of_last (by omega)
  rwa [hphase, iterate_afterAdv_cfg, ← Function.iterate_succ_apply' State.afterAdv, Nat.succ_eq_add_one, ← hk] at hlast

/-- Settles O22: the lines of a phase are taken off one by one, and the last ADV is at the next phase's top. -/
theorem lineCountExhaustion : Obligations.LineCountExhaustion := by
  intro s hwf htop
  have hs := countsLines_of_top hwf htop
  rw [← htop]
  exact ⟨fun j hj => ⟨_, advances_eq_iterate j s, hs.iterate_within_phase hj⟩, _, advances_eq_iterate _ s, hs.iterate_phase⟩

/-! ### The line of the field (R87) -/

/-- The number of the current line in its field, which starts at the top of SyncPulse with line 0. -/
def State.fieldLine (s : State) : Nat := s.cfg.linesBefore s.phase + (s.cfg.count s.phase - s.linesRem.toNat)

theorem State.CountsLines.fieldLine_lt (hs : s.CountsLines) : s.fieldLine < s.cfg.vFullLines := by
  obtain ⟨-, hpos, hle⟩ := hs
  have hfield := s.cfg.linesBefore_add_count_le s.phase
  rw [State.fieldLine]
  omega

theorem State.CountsLines.fieldLine_eq_zero_iff (hs : s.CountsLines) :
    s.fieldLine = 0 ↔ s.phase = .syncPulse ∧ s.linesRem.toNat = s.cfg.vSyncLines := by
  obtain ⟨hwf, -, hle⟩ := hs
  rw [State.fieldLine, Nat.add_eq_zero_iff, Config.linesBefore_eq_zero_iff hwf]
  refine and_congr_right fun hphase => ?_
  rw [hphase] at hle ⊢
  exact Nat.sub_eq_zero_iff_le.trans hle.ge_iff_eq

/-- Each ADV goes to the next line of the field, and from its last line to its first. -/
theorem State.CountsLines.fieldLine_afterAdv (hs : s.CountsLines) :
    s.afterAdv.fieldLine = (s.fieldLine + 1) % s.cfg.vFullLines := by
  obtain hone | htwo := hs.last_or_more
  · obtain ⟨hphase, hlines⟩ := hs.afterAdv_of_last hone
    have hlast : s.fieldLine + 1 = s.cfg.linesBefore s.phase + s.cfg.count s.phase := by
      have hcount := (Config.count_mem hs.wf s.phase).1
      rw [State.fieldLine, hone]
      omega
    rw [State.fieldLine, hphase, hlines, afterAdv_cfg, Nat.sub_self, hlast]
    exact Config.linesBefore_succ4 hs.wf s.phase
  · obtain ⟨hphase, hlines⟩ := hs.afterAdv_of_more htwo
    have hnext : s.afterAdv.fieldLine = s.fieldLine + 1 := by
      have hle := hs.lines.2
      rw [State.fieldLine, State.fieldLine, hphase, hlines, afterAdv_cfg]
      omega
    have hlt := hs.afterAdv.fieldLine_lt
    rw [hnext, afterAdv_cfg] at hlt
    rw [hnext, Nat.mod_eq_of_lt hlt]

theorem State.CountsLines.fieldLine_iterate (hs : s.CountsLines) (n : Nat) :
    (State.afterAdv^[n] s).fieldLine = (s.fieldLine + n) % s.cfg.vFullLines := by
  induction n with
  | zero => exact (Nat.mod_eq_of_lt hs.fieldLine_lt).symm
  | succ n ih =>
    rw [Function.iterate_succ_apply', (hs.iterate n).fieldLine_afterAdv, ih, iterate_afterAdv_cfg, Nat.mod_add_mod,
      Nat.add_assoc]

/-- From the top of SyncPulse, `n` ADV are at the top of SyncPulse exactly when `n` is a number of whole fields. -/
theorem State.CountsLines.iterate_at_top_iff (hs : s.CountsLines) (hphase : s.phase = .syncPulse)
    (htop : s.linesRem.toNat = s.cfg.vSyncLines) (n : Nat) :
    ((State.afterAdv^[n] s).phase = .syncPulse ∧ (State.afterAdv^[n] s).linesRem.toNat = s.cfg.vSyncLines) ↔
      n % s.cfg.vFullLines = 0 := by
  have hiff := (hs.iterate n).fieldLine_eq_zero_iff
  rw [hs.fieldLine_iterate, hs.fieldLine_eq_zero_iff.mpr ⟨hphase, htop⟩, Nat.zero_add, iterate_afterAdv_cfg] at hiff
  exact hiff.symm

/-- Settles O23: an advance skips no phase; ADV counts the lines of the field modulo `V_FULL_LINES`, and line 0 is the top of
SyncPulse. -/
theorem phaseCycleOfAField : Obligations.PhaseCycleOfAField := by
  refine ⟨fun s n _ _ => ?_, fun s hwf hphase htop => ?_, fun c htables => ?_⟩
  · exact ⟨_, _, advances_eq_iterate n s, exec_adv_eq_afterAdv _, advance_phase _⟩
  · have hs : s.CountsLines := countsLines_of_top hwf (hphase ▸ htop)
    have hiff := hs.iterate_at_top_iff hphase htop
    refine ⟨⟨_, advances_eq_iterate _ s, (hiff _).mpr (Nat.mod_self _)⟩, fun j hpos hlt => ?_⟩
    refine ⟨_, advances_eq_iterate j s, mt (hiff j).mp ?_⟩
    rw [Nat.mod_eq_of_lt hlt]
    exact hpos.ne'
  · obtain ⟨-, -, -, -, -, hsync, hbp, hactive, hfp, -⟩ := htables
    rw [Config.vFullLines, hsync, hbp, hactive, hfp]

/-! ### What changes the Phase State Machine (R83) -/

@[simp] theorem atSequencer_phase (s : State) : s.atSequencer.phase = s.phase := by unfold State.atSequencer; split <;> simp
@[simp] theorem atSequencer_linesRem (s : State) : s.atSequencer.linesRem = s.linesRem := by
  unfold State.atSequencer; split <;> simp

/-- `PHASE` and `LINES_REM` are those of `s`. -/
def State.SamePhaseMachine (s t : State) : Prop := t.phase = s.phase ∧ t.linesRem = s.linesRem

theorem exec_samePhaseMachine {i : Instr} (h : exec i s = .next t) (hi : i ≠ .adv) : s.SamePhaseMachine t := by
  obtain ⟨r, c, level, pc, n, d, hr, rfl⟩ := exec_cases h
  obtain rfl | rfl | ⟨hadv, -⟩ := hr
  · exact ⟨rfl, rfl⟩
  · exact ⟨rfl, rfl⟩
  · exact absurd hadv hi

theorem issued_of_issuing {i : Instr} (h : s.issuing = some w) (hd : decode (w.romWord w.seqPc) = .op i) :
    s.issued = some i := by
  simp only [State.issued, h, hd]

theorem issuing_of_enters (hi : s.inited = true) (henters : s.atSequencer.enters = true) :
    s.issuing = some s.atSequencer.enterEvent := by
  simp [State.issuing, hi, henters]

theorem issue_adv_or_samePhaseMachine (hw : s.issuing = some w) (h : issue w = .next t) :
    s.issued = some .adv ∨ w.SamePhaseMachine t := by
  obtain ⟨i, hd, hexec⟩ | ⟨e, -, rfl⟩ := issue_cases h
  · by_cases hadv : i = .adv
    · exact .inl (issued_of_issuing hw (hadv ▸ hd))
    · exact .inr (exec_samePhaseMachine hexec hadv)
  · exact .inr ⟨rfl, rfl⟩

/-- The Sequencer issues an ADV, or leaves the Phase State Machine alone. -/
theorem sequencer_adv_or_samePhaseMachine (hi : s.inited = true) (h : sequencer s.atSequencer = .next t) :
    s.issued = some .adv ∨ s.atSequencer.SamePhaseMachine t := by
  obtain ⟨-, -, rfl⟩ | ⟨-, -, -, -, rfl⟩ | ⟨henters, hissue⟩ | ⟨-, -, rfl⟩ | ⟨hbusy, hop, hissue⟩ := sequencer_cases h
  · exact .inr ⟨rfl, rfl⟩
  · exact .inr ⟨rfl, rfl⟩
  · exact issue_adv_or_samePhaseMachine (w := s.atSequencer.enterEvent) (issuing_of_enters hi henters) hissue
  · exact .inr ⟨rfl, rfl⟩
  · rw [atSequencer_busy] at hbusy
    rw [atSequencer_opcnt] at hop
    exact issue_adv_or_samePhaseMachine (issuing_of_busy hi hbusy hop) hissue

/-- Settles O39: what surrounds the Sequencer in a tick leaves the Phase State Machine alone, and so does every issue but
ADV's. -/
theorem phaseMachineChangedOnlyByAdv : Obligations.PhaseMachineChangedOnlyByAdv := by
  intro s t h hi hchanged
  obtain ⟨-, ⟨-, hnot, -⟩ | ⟨-, hnot, -⟩ | ⟨-, u, hu, rfl⟩⟩ := step_cases h
  · simp [hi] at hnot
  · simp [hi] at hnot
  · refine (sequencer_adv_or_samePhaseMachine hi hu).resolve_right fun ⟨hphase, hlines⟩ => ?_
    simp [State.afterSequencer, hphase, hlines] at hchanged

end Machine
end Sys2Proof
end

/-! Proofs: the Signal Driver's micro-ops, and the tick around them (43_signal_driver.md R92 to R107). -/
section
namespace Sys2Proof.Machine

variable {s t w : State}

/-! ### The micro-ops (R92 to R105) -/

/-- Settles O15: the state that SETC answers, written out. -/
theorem setcWritesColour : Obligations.SetcWritesColour := exec_setc

/-- Settles O16: a second TGLS inverts the inverted level. -/
theorem tglsInvertsSync : Obligations.TglsInvertsSync := by
  refine ⟨exec_tgls, fun s t u ht hu => ?_⟩
  cases ht
  cases hu
  exact Bool.not_not s.syncC

/-- Settles O18: the selection is `select`, the duration the one drawn in the range of DISP. -/
theorem dispSelectsTheProgram : Obligations.DispSelectsTheProgram := fun s =>
  have ⟨hlo, hhi⟩ := drawn_mem s s.cfg.disp.lo s.cfg.disp.hi s.cfg.disp.ordered
  ⟨_, hlo, hhi, exec_disp s⟩

theorem boundaryLine_iff (s : State) :
    s.boundaryLine = true ↔ (s.phase = .syncPulse ∨ s.phase = .frontPorch) ∧ s.linesRem = 1 := by
  simp [State.boundaryLine]

/-- The boundary lines are those that select `P_EDGE` (R97, R99). -/
theorem select_eq_baseEdge_iff (p : Phase) (r : BitVec 16) :
    select p r = baseEdge ↔ (p = .syncPulse ∨ p = .frontPorch) ∧ r = 1 := by
  unfold select
  split
  case isTrue h =>
    refine iff_of_false (by decide) ?_
    simp [h]
  case isFalse =>
    split
    case isTrue h => exact iff_of_true rfl h
    case isFalse h => exact iff_of_false (by decide) h

/-- Settles O19: DISP selects `P_EDGE` by the very condition of a boundary line. -/
theorem edgeProgramOnBoundaryLines : Obligations.EdgeProgramOnBoundaryLines := by
  intro s
  constructor
  · rw [boundaryLine_iff, ← BitVec.toNat_inj]
    rfl
  · intro t ht
    cases ht
    exact (select_eq_baseEdge_iff _ _).trans (boundaryLine_iff s).symm

/-- Settles O20: the state that RET answers, written out. -/
theorem retLeavesTheProgram : Obligations.RetLeavesTheProgram := exec_ret

/-! ### The tick (R106, R107) -/

theorem issue_of_decode {i : Instr} (hd : decode (w.romWord w.seqPc) = .op i) : issue w = exec i w := by
  rw [issue, hd]

/-- Settles O24: the Sequencer of a tick that issues is the issue, and issue is `exec` where the word decodes. -/
theorem stepRunsDecodedMicroOp : Obligations.StepRunsDecodedMicroOp := by
  intro s w i hwf hw hd
  rw [step_of_issuing hwf hw, issue_of_decode hd]
  rfl

theorem issuing_none_iff (hi : s.inited = true) :
    s.issuing = none ↔ s.atSequencer.enters = false ∧ ¬(s.atSequencer.busy = true ∧ s.atSequencer.opcnt = 0) := by
  cases henters : s.atSequencer.enters <;> simp [State.issuing, hi, henters]

/-- Settles O26: with nothing to issue, the Sequencer of each of the three states counts or does nothing. -/
theorem stepWithoutIssue : Obligations.StepWithoutIssue := by
  intro s hwf hi hnone
  obtain ⟨henters, hruns⟩ := (issuing_none_iff hi).mp hnone
  rw [step_inited hwf hi]
  refine ⟨fun hbusy => ?_, fun hbusy hpending hgie => ?_, fun hbusy hidle => ?_⟩
  · have hop : 0 < s.atSequencer.opcnt := Nat.pos_of_ne_zero fun hzero => hruns ⟨hbusy, hzero⟩
    rw [sequencer_of_op_running hbusy hop]
    exact ⟨hop, rfl⟩
  · have hentry : s.atSequencer.entrycnt ≠ 0 := fun hzero =>
      Bool.eq_false_iff.mp henters ((enters_iff _).mpr ⟨hbusy, hpending, hgie, hzero⟩)
    rw [sequencer_of_entry_running hbusy hpending hgie hentry]
    exact ⟨hentry, rfl⟩
  · rw [sequencer_of_idle hbusy (Bool.and_eq_false_iff.mpr hidle)]
    rfl

end Sys2Proof.Machine
end

/-! Proofs: the line programs, index by index, and their due offsets (30_encoding.md R68, R69; 70_reset_and_hazards.md R145). -/
section
namespace Sys2Proof

/-! ### The three line programs

Each is a number of output writes, every one a WAIT and then the write, and after them ADV and RET. -/

inductive LineProgram where
  | active
  | edge
  | plain

/-- The first index of a line program (R66). -/
def LineProgram.base : LineProgram → Nat
  | .active => 1
  | .edge => 21
  | .plain => 25

/-- How many output writes a line program has (R68, R69). -/
def LineProgram.writes : LineProgram → Nat
  | .active => 9
  | .edge => 1
  | .plain => 0

/-- The indices of a line program up to its ADV. -/
def LineProgram.UpToAdv (p : LineProgram) (k : Nat) : Prop := p.base ≤ k ∧ k ≤ p.base + 2 * p.writes

/-- The WAIT, the write, the ADV and the RET of the line programs. -/
inductive ProgramIndex (k : Nat) : Prop
  | wait (p : LineProgram) (j : Nat) (hj : j < p.writes) (hk : k = p.base + 2 * j)
  | setc (j : Nat) (hj : j < 9) (hk : k = 1 + 2 * j + 1)
  | tgls (hk : k = 22)
  | adv (p : LineProgram) (hk : k = p.base + 2 * p.writes)
  | ret (p : LineProgram) (hk : k = p.base + 2 * p.writes + 1)

theorem programIndex_of_mem {k : Nat} (hpos : 1 ≤ k) (hle : k ≤ 26) : ProgramIndex k := by
  obtain hbands | hrest := le_or_gt k 18
  · obtain heven | hodd := Nat.mod_two_eq_zero_or_one k
    · exact .setc ((k - 2) / 2) (by omega) (by omega)
    · exact .wait .active ((k - 1) / 2) (by simp only [LineProgram.writes]; omega) (by simp only [LineProgram.base]; omega)
  · interval_cases k
    · exact .adv .active rfl
    · exact .ret .active rfl
    · exact .wait .edge 0 (by decide) rfl
    · exact .tgls rfl
    · exact .adv .edge rfl
    · exact .ret .edge rfl
    · exact .adv .plain rfl
    · exact .ret .plain rfl

/-- No index belongs to two line programs. -/
theorem LineProgram.UpToAdv.unique {p q : LineProgram} {k : Nat} (hp : p.UpToAdv k) (hq : q.UpToAdv k) : p = q := by
  obtain ⟨hplo, hphi⟩ := hp
  obtain ⟨hqlo, hqhi⟩ := hq
  cases p <;> cases q
  case active.active | edge.edge | plain.plain => rfl
  all_goals
    simp only [base, writes] at hplo hphi hqlo hqhi
    omega

/-! ### What stands at an index -/

/-- The target of the WAIT before the `j`-th write: the start of band `j`, or the end of the active part (R68, R69). -/
def Config.writeTarget (c : Config) (j : Nat) : Nat := if j < 8 then c.bandStart j else c.activeEnd

/-- The colour that the `j`-th write of `P_ACTIVE` writes: band `j`'s, and blank after the last (R68, R101). -/
def Config.writeColour (c : Config) (j : Nat) : Colour := if h : j < 8 then c.bandColors[j] else 0

variable {c : Config} {j : Nat}

theorem Config.slots_wait (p : LineProgram) (hj : j < p.writes) :
    c.slots[p.base + 2 * j]? = some (Slot.wait (c.writeTarget j)) := by
  rw [slots_listed]
  cases p <;> simp only [LineProgram.writes] at hj
  case active => interval_cases j <;> rfl
  case edge =>
    interval_cases j
    simp [LineProgram.base, writeTarget, bandStart]
  case plain => omega

theorem Config.slots_setc (hj : j < 9) : c.slots[1 + 2 * j + 1]? = some (Slot.plain (.setc (c.writeColour j))) := by
  rw [slots_listed]
  interval_cases j <;> rfl

theorem Config.slots_tgls : c.slots[22]? = some (Slot.plain .tgls) := by
  rw [slots_listed]
  rfl

theorem Config.slots_adv (p : LineProgram) : c.slots[p.base + 2 * p.writes]? = some (Slot.plain .adv) := by
  rw [slots_listed]
  cases p <;> rfl

theorem Config.slots_ret (p : LineProgram) : c.slots[p.base + 2 * p.writes + 1]? = some (Slot.plain .ret) := by
  rw [slots_listed]
  cases p <;> rfl

theorem Config.slots_disp : c.slots[0]? = some (Slot.plain .disp) := rfl

theorem Config.rom_of_slot {k : Nat} {e : Slot} (hk : k < 32) (he : c.slots[k]? = some e) : c.rom[k] = e.word := by
  rw [c.rom_getElem_eq hk, (List.getElem?_eq_some_iff.mp he).2]

theorem Config.targetAbs_of_slot {k : Nat} {e : Slot} (hk : k < 32) (he : c.slots[k]? = some e) :
    c.targetAbs[k] = e.target := by
  rw [c.targetAbs_getElem_eq hk, (List.getElem?_eq_some_iff.mp he).2]

/-! ### When an index is due (R145) -/

/-- How long a write of the line program takes; `P_PLAIN` has none. -/
def LineProgram.writeTicks (c : Config) : LineProgram → Nat
  | .active => c.durSetc.ticks
  | .edge => c.durTgls.ticks
  | .plain => 0

/-- The offset of the `j`-th write: its WAIT's target plus `WAIT_B` (R80, R91). -/
def Config.writeAt (c : Config) (j : Nat) : Nat := c.writeTarget j + c.waitB.ticks

/-- The offset by which a line program is through with its first `j` writes. -/
def Config.doneBy (c : Config) (p : LineProgram) : Nat → Nat
  | 0 => c.entry.hi + c.disp.hi
  | j + 1 => c.writeAt j + p.writeTicks c

variable {p : LineProgram} {i : RomIndex} {x : Nat}

/-- The WAIT or the ADV after `j` writes: a bound before the first write, exact after it. -/
theorem Config.due_after_writes (hj : j ≤ p.writes) (hi : i.toNat = p.base + 2 * j) :
    c.due i x ↔ x ≤ c.doneBy p j ∧ (j ≠ 0 → x = c.doneBy p j) := by
  unfold due
  rw [hi]
  have hrefl : ∀ d : Nat, x = d ↔ x ≤ d ∧ x = d := fun d => ⟨fun h => ⟨h.le, h⟩, And.right⟩
  cases p <;> simp only [LineProgram.writes] at hj
  case active =>
    interval_cases j
    · simp [LineProgram.base, doneBy]
    all_goals simpa [LineProgram.base, doneBy, writeAt, writeTarget, LineProgram.writeTicks] using hrefl _
  case edge =>
    interval_cases j
    · simp [LineProgram.base, doneBy]
    · simpa [LineProgram.base, doneBy, writeAt, writeTarget, bandStart, LineProgram.writeTicks] using hrefl _
  case plain =>
    interval_cases j
    simp [LineProgram.base, doneBy]

theorem Config.due_write (hj : j < p.writes) (hi : i.toNat = p.base + 2 * j + 1) : c.due i x ↔ x = c.writeAt j := by
  unfold due
  rw [hi]
  cases p <;> simp only [LineProgram.writes] at hj
  case active => interval_cases j <;> rfl
  case edge =>
    interval_cases j
    simp [LineProgram.base, writeAt, writeTarget, bandStart]
  case plain => omega

theorem Config.due_ret (hi : i.toNat = p.base + 2 * p.writes + 1) :
    c.due i x ↔ x ≤ c.doneBy p p.writes + c.adv.hi := by
  unfold due
  rw [hi]
  cases p
  case active => rfl
  case edge => simp [LineProgram.base, LineProgram.writes, doneBy, writeAt, writeTarget, bandStart, LineProgram.writeTicks]
  case plain => rfl

theorem Config.due_idle : c.due idlePc x ↔ x ≤ c.hFullLineNbTicks := Iff.rfl

/-- What is due stands in a line program, or is the end of its last micro-op. -/
theorem Config.index_of_due (h : c.due i x) : i = idlePc ∨ (1 ≤ i.toNat ∧ i.toNat ≤ 26) := by
  by_contra hnot
  rw [not_or, not_and_or, Nat.not_le, Nat.not_le] at hnot
  obtain ⟨hidle, hout⟩ := hnot
  have hne : i.toNat ≠ 31 := fun h31 => hidle (BitVec.eq_of_toNat_eq h31)
  have hlt := i.isLt
  unfold due at h
  split at h <;> omega

/-! ### The line budget (R145) -/

/-- A well-formed configuration within the line budget, with the first target in the byte window of the line start (R77). -/
structure Config.InBudget (c : Config) : Prop where
  wf : c.wellFormed = true
  budget : c.lineBudget
  first : c.activeStart ≤ 255

theorem Config.writeTarget_zero (c : Config) : c.writeTarget 0 = c.activeStart := by simp [writeTarget, bandStart]

theorem Config.writeTarget_succ (hwf : c.wellFormed = true) (hj : j < 8) :
    c.writeTarget j + c.bandW ≤ c.writeTarget (j + 1) ∧ c.writeTarget (j + 1) ≤ c.writeTarget j + 255 := by
  obtain ⟨⟨-, -, -, -, ⟨hgaps, hlast, -⟩, -⟩, hbands⟩ := c.wellFormed_iff.mp hwf
  have hfit : c.bandW * 8 ≤ c.hActiveTicks := by
    rw [← hbands]
    exact Nat.div_mul_le_self _ _
  have hj' : j < 7 ∨ j = 7 := by omega
  obtain hj' | rfl := hj'
  · have hband : c.bandStart (j + 1) = c.bandStart j + c.bandW := by simp only [bandStart, Nat.succ_mul]; omega
    simp only [writeTarget, if_pos hj, if_pos (show j + 1 < 8 by omega)]
    exact ⟨hband.ge, hgaps j hj'⟩
  · refine ⟨?_, hlast⟩
    simp only [writeTarget, bandStart, activeEnd, Nat.lt_irrefl, if_false, show 7 < 8 by decide, if_true]
    omega

theorem Config.writeTarget_le_activeEnd (hwf : c.wellFormed = true) (j : Nat) : c.writeTarget j ≤ c.activeEnd := by
  unfold writeTarget
  split
  case isTrue hj =>
    have hband : c.bandStart j ≤ c.bandStart 7 := Nat.add_le_add_left (Nat.mul_le_mul_right _ (Nat.le_of_lt_succ hj)) _
    exact hband.trans (bandStart_seven_lt_activeEnd hwf).le
  case isFalse => exact le_rfl

/-- T1 and T2: a line program reaches every WAIT before its target. -/
theorem Config.InBudget.doneBy_le_target (hc : c.InBudget) (hj : j < p.writes) : c.doneBy p j ≤ c.writeTarget j := by
  obtain ⟨hentry, hwrite, -⟩ := hc.budget
  cases j with
  | zero =>
    rw [writeTarget_zero]
    exact hentry
  | succ j =>
    cases p with
    | active =>
      have hnext := (writeTarget_succ hc.wf (show j < 8 from Nat.lt_of_succ_lt_succ hj)).1
      simp only [doneBy, writeAt, LineProgram.writeTicks]
      omega
    | edge => simp [LineProgram.writes] at hj
    | plain => simp [LineProgram.writes] at hj

/-- T3, T4 and T5: after its writes a line program has the time for ADV and RET. -/
theorem Config.InBudget.doneBy_all (hc : c.InBudget) (p : LineProgram) :
    c.doneBy p p.writes + c.adv.hi + c.durRet.ticks ≤ c.hFullLineNbTicks := by
  obtain ⟨-, -, hactive, hedge, hplain⟩ := hc.budget
  have hpos := c.waitB.pos
  cases p
  case active =>
    change c.activeEnd + c.waitB.ticks + c.durSetc.ticks + c.adv.hi + c.durRet.ticks ≤ _
    omega
  case edge =>
    change c.writeTarget 0 + c.waitB.ticks + c.durTgls.ticks + c.adv.hi + c.durRet.ticks ≤ _
    rw [writeTarget_zero]
    omega
  case plain => exact hplain

theorem Config.InBudget.writeAt_lt_doneBy (hc : c.InBudget) (hj : j < p.writes) : c.writeAt j < c.doneBy p p.writes := by
  cases p with
  | active =>
    have hle := writeTarget_le_activeEnd hc.wf j
    have hpos := c.durSetc.pos
    change c.writeTarget j + c.waitB.ticks < c.activeEnd + c.waitB.ticks + c.durSetc.ticks
    omega
  | edge =>
    cases Nat.lt_one_iff.mp hj
    exact Nat.lt_add_of_pos_right c.durTgls.pos
  | plain => simp [LineProgram.writes] at hj

theorem Config.InBudget.doneBy_lt_period (hc : c.InBudget) (p : LineProgram) : c.doneBy p p.writes < c.hFullLineNbTicks := by
  have hall := hc.doneBy_all p
  have hpos := c.durRet.pos
  omega

theorem Config.InBudget.entry_lt_period (hc : c.InBudget) : c.entry.hi + 1 < c.hFullLineNbTicks := by
  have hplain := hc.doneBy_all .plain
  have hdisp := c.disp.pos.trans c.disp.ordered
  have hadv := c.adv.pos.trans c.adv.ordered
  have hpos := c.durRet.pos
  simp only [LineProgram.writes, doneBy] at hplain
  omega

/-- Every micro-op is due within its line. -/
theorem Config.InBudget.due_lt_period (hc : c.InBudget) (hi : i ≠ idlePc) (h : c.due i x) : x < c.hFullLineNbTicks := by
  obtain ⟨hpos, hle⟩ := (index_of_due h).resolve_left hi
  cases programIndex_of_mem hpos hle with
  | wait p j hj hk =>
    have hdone := ((due_after_writes hj.le hk).mp h).1
    have htarget := hc.doneBy_le_target hj
    have hwrite := hc.writeAt_lt_doneBy hj
    have hperiod := hc.doneBy_lt_period p
    simp only [writeAt] at hwrite
    omega
  | setc j hj hk =>
    rw [(due_write (p := .active) hj hk).mp h]
    exact (hc.writeAt_lt_doneBy (p := .active) hj).trans (hc.doneBy_lt_period _)
  | tgls hk =>
    rw [(due_write (p := .edge) (j := 0) (by decide) hk).mp h]
    exact (hc.writeAt_lt_doneBy (p := .edge) (by decide)).trans (hc.doneBy_lt_period _)
  | adv p hk =>
    have hdone := ((due_after_writes le_rfl hk).mp h).1
    exact hdone.trans_lt (hc.doneBy_lt_period p)
  | ret p hk =>
    have hdone := (due_ret hk).mp h
    have hall := hc.doneBy_all p
    have hret := c.durRet.pos
    omega

end Sys2Proof
end

/-! Proofs: the line schedule is kept by every tick (70_reset_and_hazards.md R145). -/
section
namespace Sys2Proof.Machine

variable {s t u w : State}

/-! ### What being on schedule says -/

theorem inBudget_of_onSchedule (hs : s.OnSchedule) : s.cfg.InBudget := by
  obtain ⟨hwf, hbudget, hfirst, -⟩ := hs
  exact ⟨hwf, hbudget, hfirst⟩

theorem tables_of_onSchedule (hs : s.OnSchedule) : s.rom = s.cfg.rom ∧ s.targetAbs = s.cfg.targetAbs := by
  obtain ⟨-, -, -, hrom, htargets, -⟩ := hs
  exact ⟨hrom, htargets⟩

theorem inited_of_onSchedule (hs : s.OnSchedule) : s.inited = true := by
  obtain ⟨-, -, -, -, -, hi, -⟩ := hs
  exact hi

theorem live_of_onSchedule (hs : s.OnSchedule) : s.live := by
  obtain ⟨-, -, -, -, -, -, hlive, -⟩ := hs
  exact hlive

theorem faults_of_onSchedule (hs : s.OnSchedule) : s.faults = 0 := by
  obtain ⟨-, -, -, -, -, -, -, hfaults, -⟩ := hs
  exact hfaults

theorem hostInit_of_onSchedule (hs : s.OnSchedule) : s.hostInit = [] := by
  obtain ⟨-, -, -, -, -, -, -, -, hhost, -⟩ := hs
  exact hhost

theorem sequencer_of_onSchedule (hs : s.OnSchedule) : s.sequencerOnSchedule := by
  obtain ⟨-, -, -, -, -, -, -, -, -, hseq⟩ := hs
  exact hseq

theorem liveLegal_of_onSchedule (hs : s.OnSchedule) : s.LiveLegal := by
  refine ⟨(inBudget_of_onSchedule hs).wf, live_of_onSchedule hs, ?_⟩
  rw [State.faultsLegal, State.raised, State.raised, faults_of_onSchedule hs]
  decide

theorem countsLines_of_onSchedule (hs : s.OnSchedule) : s.CountsLines := by
  obtain ⟨-, -, -, -, -, hlines, -⟩ := live_of_onSchedule hs
  exact ⟨(inBudget_of_onSchedule hs).wf, hlines⟩

/-- Off the idle index, a block on schedule has its next micro-op due, and no event. -/
theorem due_of_onSchedule (hs : s.OnSchedule) (hpc : s.seqPc ≠ idlePc) :
    s.pending = false ∧ s.evtFlag = false ∧ s.cfg.due s.seqPc (s.tcnt.toNat + s.opcnt) := by
  obtain ⟨hidle, -⟩ | ⟨hidle, -⟩ | ⟨-, hpending, hev, hdue⟩ := sequencer_of_onSchedule hs
  · exact absurd hidle hpc
  · exact absurd hidle hpc
  · exact ⟨hpending, hev, hdue⟩

/-- An event finds the Sequencer idle, with no event pending. -/
theorem idle_of_event (hs : s.OnSchedule) (hev : s.evtFlag = true) :
    s.seqPc = idlePc ∧ s.opcnt = 0 ∧ s.pending = false := by
  obtain hidle | ⟨-, -, -, hno, -⟩ | ⟨-, -, hno, -⟩ := sequencer_of_onSchedule hs
  · exact hidle
  · simp [hev] at hno
  · simp [hev] at hno

theorem onProgram_of_onSchedule (hs : s.OnSchedule) : s.OnProgram := by
  obtain ⟨hrom, -⟩ := tables_of_onSchedule hs
  refine ⟨(inBudget_of_onSchedule hs).wf, hrom, ?_, fun hnot => ?_⟩
  · by_cases hpc : s.seqPc = idlePc
    · exact .inl hpc
    · obtain ⟨-, -, hdue⟩ := due_of_onSchedule hs hpc
      exact Config.index_of_due hdue
  · rw [inited_of_onSchedule hs] at hnot
    cases hnot

/-! ### Before the Sequencer -/

@[simp] theorem atSequencer_gie (s : State) : s.atSequencer.gie = s.gie := by unfold State.atSequencer; split <;> simp

theorem deliver_pending (s : State) : s.deliver.pending = (s.pending || (s.evtFlag && s.evtIE)) := by
  cases h : s.evtFlag && s.evtIE with
  | false => rw [deliver_none s h, Bool.or_false]
  | true => rw [(deliver_event s h).1, Bool.or_true]

theorem atSequencer_pending (s : State) : s.atSequencer.pending = (s.pending || (s.evtFlag && s.evtIE)) := by
  unfold State.atSequencer
  split <;> rw [deliver_pending] <;> rfl

/-- With no strobe and no enabled event, a tick only latches the pins before the Sequencer acts. -/
theorem atSequencer_quiet (hs : s.strobe = false) (hev : (s.evtFlag && s.evtIE) = false) :
    s.atSequencer = s.popStrobe.latchPins := by
  rw [State.atSequencer, hs]
  exact deliver_none _ hev

/-- An event that finds the Sequencer idle and no other pending raises nothing, and draws its latency (R117 to R119). -/
theorem atSequencer_event (hs : s.strobe = false) (hev : (s.evtFlag && s.evtIE) = true) (hbusy : s.busy = false)
    (hpending : s.pending = false) :
    s.atSequencer.faults = s.faults ∧ s.atSequencer.entrycnt.toNat ≤ s.cfg.entry.hi := by
  obtain ⟨-, hentry, -, hfaults⟩ := deliver_event s.popStrobe.latchPins hev
  have hat : s.atSequencer = s.popStrobe.latchPins.deliver := by rw [State.atSequencer, hs]; rfl
  have hbusy' : s.popStrobe.latchPins.busy = false := hbusy
  rw [hat, hentry, hfaults, hbusy']
  have hdraw := (drawn_mem s.popStrobe.latchPins s.cfg.entry.lo s.cfg.entry.hi s.cfg.entry.ordered).2
  exact ⟨by simp [hpending], (Nat.mod_le _ _).trans hdraw⟩

/-! ### Issue at an index of a line program -/

theorem State.AtProgram.romWord_of_slot (hw : w.AtProgram) {e : Slot} (he : w.cfg.slots[w.seqPc.toNat]? = some e) :
    w.romWord w.seqPc = e.word := by
  rw [hw.romWord_eq]
  exact Config.rom_of_slot _ he

theorem State.AtProgram.issue_plain (hw : w.AtProgram) {i : Instr}
    (he : w.cfg.slots[w.seqPc.toNat]? = some (Slot.plain i)) : issue w = exec i w :=
  issue_of_decode ((congrArg decode (hw.romWord_of_slot he)).trans (decode_encode i))

theorem State.AtProgram.issue_wait (hw : w.AtProgram) {T : Nat} (he : w.cfg.slots[w.seqPc.toNat]? = some (Slot.wait T)) :
    issue w = exec (.wait (BitVec.ofNat 8 (T % 256))) w :=
  issue_of_decode ((congrArg decode (hw.romWord_of_slot he)).trans (decode_encode _))

theorem target_of_slot (htargets : w.targetAbs = w.cfg.targetAbs) {i : RomIndex} {e : Slot}
    (he : w.cfg.slots[i.toNat]? = some e) : w.target i = e.target := by
  rw [State.target]
  simp only [htargets]
  exact Config.targetAbs_of_slot _ he

/-! ### After the Sequencer -/

/-- The Sequencer is on schedule for the counter value that the Frame Clock is about to give. -/
def State.onScheduleNextTick (u : State) : Prop :=
  (u.seqPc = idlePc ∧ u.opcnt = 0 ∧ u.pending = true ∧ u.tcnt.toNat + 1 + u.entrycnt.toNat ≤ u.cfg.entry.hi) ∨
    (u.pending = false ∧ (u.seqPc = idlePc ∧ u.opcnt = 0 ∨ u.cfg.due u.seqPc (u.tcnt.toNat + 1 + u.opcnt)))

/-- The Frame Clock of a live block: the counter goes on by one, and at the end of the line to 0 with the event flag (R112). -/
theorem live_frameClock (hwf : u.cfg.wellFormed = true) (hlive : u.live) :
    u.frameClock.tcnt.toNat = (u.tcnt.toNat + 1) % u.cfg.hFullLineNbTicks ∧
      u.frameClock.evtFlag = decide (u.frameClock.tcnt = 0) := by
  obtain ⟨harmed, -, -, hperiod, -⟩ := hlive
  obtain ⟨htcnt, hflag⟩ := frameClock_on u harmed
  have hpos := (Config.period_mem hwf).1
  have hne : u.period ≠ 0 := by
    intro hzero
    rw [hzero] at hperiod
    exact absurd hperiod (Nat.ne_of_lt hpos)
  rw [htcnt, hflag, restart_toNat _ _ hne, hperiod]
  exact ⟨rfl, rfl⟩

/-- Short of the end of the line the counter goes on by one, and there is no event. -/
theorem live_frameClock_within (hwf : u.cfg.wellFormed = true) (hlive : u.live)
    (hlt : u.tcnt.toNat + 1 < u.cfg.hFullLineNbTicks) :
    u.frameClock.tcnt.toNat = u.tcnt.toNat + 1 ∧ u.frameClock.evtFlag = false := by
  obtain ⟨htcnt, hflag⟩ := live_frameClock hwf hlive
  rw [Nat.mod_eq_of_lt hlt] at htcnt
  refine ⟨htcnt, ?_⟩
  rw [hflag, decide_eq_false_iff_not]
  intro hzero
  simp [hzero] at htcnt

theorem afterSequencer_onSchedule (hc : u.cfg.InBudget) (hlive : u.live) (h : u.onScheduleNextTick) :
    u.afterSequencer.sequencerOnSchedule := by
  simp only [State.sequencerOnSchedule, State.afterSequencer, endTick_seqPc, endTick_opcnt, endTick_pending, endTick_evtFlag,
    endTick_tcnt, endTick_entrycnt, endTick_cfg, frameClock_seqPc, frameClock_opcnt, frameClock_pending, frameClock_entrycnt,
    frameClock_cfg]
  obtain ⟨hpc, hop, hpending, hentry⟩ | ⟨hpending, hdue⟩ := h
  · have hperiod := hc.entry_lt_period
    obtain ⟨htcnt, hflag⟩ := live_frameClock_within hc.wf hlive (by omega)
    exact .inr (.inl ⟨hpc, hop, hpending, hflag, by omega⟩)
  · by_cases hidle : u.seqPc = idlePc ∧ u.opcnt = 0
    · exact .inl ⟨hidle.1, hidle.2, hpending⟩
    · have hdue := hdue.resolve_left hidle
      rw [not_and_or] at hidle
      have hlt : u.tcnt.toNat + 1 < u.cfg.hFullLineNbTicks := by
        by_cases hpc : u.seqPc = idlePc
        · have hop := hidle.resolve_left (not_not.mpr hpc)
          rw [hpc, Config.due_idle] at hdue
          omega
        · have hlt := hc.due_lt_period hpc hdue
          omega
      obtain ⟨htcnt, hflag⟩ := live_frameClock_within hc.wf hlive hlt
      rw [htcnt, hflag]
      exact .inr (.inr ⟨hidle, hpending, rfl, hdue⟩)

/-! ### The Sequencer on schedule -/

theorem drawn_duration_mem (s : State) (r : DurationRange) : 1 ≤ s.drawn r.lo r.hi ∧ s.drawn r.lo r.hi ≤ r.hi := by
  obtain ⟨hlo, hhi⟩ := drawn_mem s r.lo r.hi r.ordered
  exact ⟨r.pos.trans hlo, hhi⟩

theorem exec_pending {i : Instr} (h : exec i s = .next t) : t.pending = s.pending := by
  obtain ⟨r, c, level, pc, n, d, hr, rfl⟩ := exec_cases h
  obtain rfl | rfl | ⟨-, rfl⟩ := hr
  · rfl
  · rfl
  · obtain ⟨-, h⟩ | ⟨-, -, h⟩ | ⟨-, -, -, h⟩ := advance_cases s <;> simp only [h, raise_pending]

/-- A micro-op with a duration after which the Sequencer is due, and no fault, leaves the block on schedule. -/
theorem exec_onScheduleNextTick {i : Instr} {d : Nat} (h : exec i w = .next u) (hpending : w.pending = false)
    (hd : 1 ≤ d) (hop : u.opcnt = d - 1) (hdue : w.cfg.due u.seqPc (w.tcnt.toNat + d)) : u.onScheduleNextTick := by
  have hframe := exec_frame h
  refine .inr ⟨(exec_pending h).trans hpending, .inr ?_⟩
  rwa [hframe.cfg, hframe.tcnt, hop, Nat.add_assoc, Nat.add_sub_cancel' hd]

theorem advance_faults (hlines : s.linesLegal) : s.advance.faults = s.faults := by
  obtain ⟨hpos, hle⟩ := hlines
  obtain ⟨hbad | hbad, -⟩ | ⟨-, -, h⟩ | ⟨-, -, -, h⟩ := advance_cases s
  · simp [hbad] at hpos
  · omega
  · rw [h]
  · rw [h]

/-- The entry of an event: DISP draws its duration, and the program it selects is due by `ENTRY_MAX + DISP_MAX` (T1, T5). -/
theorem enterEvent_onSchedule (hrom : w.rom = w.cfg.rom) (htcnt : w.tcnt.toNat ≤ w.cfg.entry.hi)
    (h : issue w.enterEvent = .next u) : u.faults = w.faults ∧ u.onScheduleNextTick := by
  rw [(enterEvent_atProgram hrom).issue_plain Config.slots_disp] at h
  obtain ⟨hd, hhi⟩ := drawn_duration_mem w.enterEvent w.cfg.disp
  have hbound : w.tcnt.toNat + w.enterEvent.drawn w.cfg.disp.lo w.cfg.disp.hi ≤ w.cfg.entry.hi + w.cfg.disp.hi := by omega
  have hdue : w.cfg.due (select w.phase w.linesRem) (w.tcnt.toNat + w.enterEvent.drawn w.cfg.disp.lo w.cfg.disp.hi) := by
    unfold select
    split
    · exact hbound
    · split <;> exact hbound
  have hexec := h
  cases h
  exact ⟨rfl, exec_onScheduleNextTick hexec rfl hd rfl hdue⟩

section
variable (hc : w.cfg.InBudget) (hprog : w.AtProgram) (hdue : w.cfg.due w.seqPc w.tcnt.toNat)
include hc hprog hdue

/-- A WAIT issued when it is due is in its window, and its exit is at its target plus `WAIT_B` (R80). -/
theorem issue_wait_due (htargets : w.targetAbs = w.cfg.targetAbs) {p : LineProgram} {j : Nat} (hj : j < p.writes)
    (hk : w.seqPc.toNat = p.base + 2 * j) :
    ∃ t8, issue w = exec (.wait t8) w ∧ exec (.wait t8) w = .next (w.waitHit t8) ∧
      w.tcnt.toNat + w.waitTicks t8 = w.cfg.writeAt j := by
  have hslot := hk ▸ Config.slots_wait (c := w.cfg) p hj
  obtain ⟨hdone, hexact⟩ := (Config.due_after_writes hj.le hk).mp hdue
  have hle := hdone.trans (hc.doneBy_le_target hj)
  have hnear : w.cfg.writeTarget j - w.tcnt.toNat ≤ 255 := by
    cases j with
    | zero =>
      have hfirst := hc.first
      rw [Config.writeTarget_zero]
      omega
    | succ j =>
      have hj8 : j < 8 := by cases p <;> simp only [LineProgram.writes] at hj <;> omega
      have hnext := (Config.writeTarget_succ hc.wf hj8).2
      have hx := hexact (Nat.succ_ne_zero j)
      simp only [Config.doneBy, Config.writeAt] at hx
      omega
  have hin := (inWindow_iff (target_of_slot htargets hslot)).mpr ⟨hle, hnear⟩
  have hdelta := waitDelta_eq (t8 := BitVec.ofNat 8 (w.cfg.writeTarget j % 256)) (by simp) hle hnear
  refine ⟨_, hprog.issue_wait hslot, exec_wait_hit _ hin, ?_⟩
  rw [State.waitTicks, hdelta, Config.writeAt]
  omega

/-- A micro-op issued when it is due raises nothing, and the next one is due in time. -/
theorem issue_onSchedule (htargets : w.targetAbs = w.cfg.targetAbs) (hlines : w.linesLegal) (hpending : w.pending = false)
    (hpc : w.seqPc ≠ idlePc) (h : issue w = .next u) : u.faults = w.faults ∧ u.onScheduleNextTick := by
  obtain ⟨hpos, hle⟩ := (Config.index_of_due hdue).resolve_left hpc
  have hsucc : (w.seqPc + 1).toNat = w.seqPc.toNat + 1 := by bv_omega
  suffices hnext : ∃ i d, exec i w = .next u ∧ u.faults = w.faults ∧ 1 ≤ d ∧ u.opcnt = d - 1 ∧
      w.cfg.due u.seqPc (w.tcnt.toNat + d) by
    obtain ⟨i, d, hexec, hfaults, hd, hop, hdue'⟩ := hnext
    exact ⟨hfaults, exec_onScheduleNextTick hexec hpending hd hop hdue'⟩
  cases programIndex_of_mem hpos hle with
  | wait p j hj hk =>
    obtain ⟨t8, hissue, hexec, hexit⟩ := issue_wait_due hc hprog hdue htargets hj hk
    cases (hissue.trans hexec).symm.trans h
    refine ⟨_, w.waitTicks t8, hexec, rfl, w.cfg.waitB.pos.trans (Nat.le_add_left _ _), rfl, ?_⟩
    exact (Config.due_write hj (hsucc.trans (congrArg (· + 1) hk))).mpr hexit
  | setc j hj hk =>
    rw [hprog.issue_plain (hk ▸ Config.slots_setc hj)] at h
    have hx := (Config.due_write (p := .active) hj hk).mp hdue
    have hdone : w.tcnt.toNat + w.cfg.durSetc.ticks = w.cfg.doneBy .active (j + 1) := by rw [hx]; rfl
    have hexec := h
    cases h
    refine ⟨_, _, hexec, rfl, w.cfg.durSetc.pos, rfl, ?_⟩
    exact (Config.due_after_writes (p := .active) hj (hsucc.trans (congrArg (· + 1) hk))).mpr ⟨hdone.le, fun _ => hdone⟩
  | tgls hk =>
    rw [hprog.issue_plain (hk ▸ Config.slots_tgls)] at h
    have hx := (Config.due_write (p := .edge) (j := 0) (by decide) hk).mp hdue
    have hdone : w.tcnt.toNat + w.cfg.durTgls.ticks = w.cfg.doneBy .edge 1 := by rw [hx]; rfl
    have hexec := h
    cases h
    refine ⟨_, _, hexec, rfl, w.cfg.durTgls.pos, rfl, ?_⟩
    exact (Config.due_after_writes (p := .edge) le_rfl (hsucc.trans (congrArg (· + 1) hk))).mpr ⟨hdone.le, fun _ => hdone⟩
  | adv p hk =>
    rw [hprog.issue_plain (hk ▸ Config.slots_adv p)] at h
    have hx := ((Config.due_after_writes le_rfl hk).mp hdue).1
    obtain ⟨hd, hhi⟩ := drawn_duration_mem w w.cfg.adv
    have hexec := h
    rw [exec_adv] at h
    injection h with h
    have hpc' : u.seqPc = w.seqPc + 1 := by simp [← h]
    refine ⟨_, w.drawn w.cfg.adv.lo w.cfg.adv.hi, hexec, by simp [← h, advance_faults hlines], hd, by simp [← h], ?_⟩
    rw [Config.due_ret (hpc' ▸ hsucc.trans (congrArg (· + 1) hk))]
    exact Nat.add_le_add hx hhi
  | ret p hk =>
    rw [hprog.issue_plain (hk ▸ Config.slots_ret p)] at h
    have hx := (Config.due_ret hk).mp hdue
    have hall := hc.doneBy_all p
    have hexec := h
    cases h
    refine ⟨_, _, hexec, rfl, w.cfg.durRet.pos, rfl, ?_⟩
    exact Config.due_idle.mpr ((Nat.add_le_add_right hx _).trans hall)

end

/-! ### A tick on schedule -/

/-- Idle with an event latched, the Sequencer counts its latency down and enters it (R120). -/
theorem sequencer_entry_onSchedule (hrom : w.rom = w.cfg.rom) (hbusy : w.busy = false) (hpending : w.pending = true)
    (hgie : w.gie = true) (hentry : w.tcnt.toNat + w.entrycnt.toNat ≤ w.cfg.entry.hi) (h : sequencer w = .next u) :
    u.faults = w.faults ∧ u.onScheduleNextTick := by
  by_cases hzero : w.entrycnt = 0
  · rw [sequencer_of_enters ((enters_iff w).mpr ⟨hbusy, hpending, hgie, hzero⟩)] at h
    exact enterEvent_onSchedule hrom ((Nat.le_add_right _ _).trans hentry) h
  · rw [sequencer_of_entry_running hbusy hpending hgie hzero] at h
    cases h
    obtain ⟨hpc, hop⟩ := (busy_eq_false_iff w).mp hbusy
    refine ⟨rfl, .inl ⟨hpc, hop, hpending, ?_⟩⟩
    change w.tcnt.toNat + 1 + (w.entrycnt - 1).toNat ≤ w.cfg.entry.hi
    bv_omega

/-- Busy, the Sequencer counts its micro-op down, and issues the next one when it is due. -/
theorem sequencer_busy_onSchedule (hc : w.cfg.InBudget) (hrom : w.rom = w.cfg.rom) (htargets : w.targetAbs = w.cfg.targetAbs)
    (hlines : w.linesLegal) (hpending : w.pending = false) (hbusy : w.busy = true)
    (hdue : w.cfg.due w.seqPc (w.tcnt.toNat + w.opcnt)) (h : sequencer w = .next u) :
    u.faults = w.faults ∧ u.onScheduleNextTick := by
  obtain hop | hop := Nat.eq_zero_or_pos w.opcnt
  · rw [sequencer_of_busy hbusy hop] at h
    rw [hop, Nat.add_zero] at hdue
    have hprog := atProgram_of_busy hrom (Config.index_of_due hdue) hbusy hop
    exact issue_onSchedule hc hprog hdue htargets hlines hpending (seqPc_ne_idlePc hbusy hop) h
  · rw [sequencer_of_op_running hbusy hop] at h
    cases h
    refine ⟨rfl, .inr ⟨hpending, .inr ?_⟩⟩
    change w.cfg.due w.seqPc (w.tcnt.toNat + 1 + (w.opcnt - 1))
    rwa [Nat.add_assoc, Nat.add_sub_cancel' hop]

/-- On schedule the Sequencer raises nothing, and leaves itself on schedule, whatever is drawn. -/
theorem sequencer_onSchedule (hs : s.OnSchedule) (h : sequencer s.atSequencer = .next u) :
    u.faults = 0 ∧ u.onScheduleNextTick := by
  have hc := inBudget_of_onSchedule hs
  obtain ⟨hrom, htargets⟩ := tables_of_onSchedule hs
  obtain ⟨-, hie, hgie, -, -, hlines, hflag⟩ := live_of_onSchedule hs
  have hfaults := faults_of_onSchedule hs
  have hstrobe : s.strobe = false := by rw [State.strobe, hostInit_of_onSchedule hs]; rfl
  have hrom' := atSequencer_rom_eq hrom
  have hgie' : s.atSequencer.gie = true := (atSequencer_gie s).trans hgie
  cases hev : s.evtFlag with
  | false =>
    have hquiet := atSequencer_quiet hstrobe (s := s) (by rw [hev]; rfl)
    rw [hquiet] at h
    rw [← hfaults]
    obtain ⟨hpc, hop, hpending⟩ | ⟨hpc, hop, hpending, -, hentry⟩ | ⟨hrun, hpending, -, hdue⟩ := sequencer_of_onSchedule hs
    · have hbusy : s.popStrobe.latchPins.busy = false := (busy_eq_false_iff s).mpr ⟨hpc, hop⟩
      rw [sequencer_of_idle hbusy (Bool.and_eq_false_iff.mpr (.inl hpending))] at h
      cases h
      exact ⟨rfl, .inr ⟨hpending, .inl ⟨hpc, hop⟩⟩⟩
    · exact sequencer_entry_onSchedule (w := s.popStrobe.latchPins) hrom ((busy_eq_false_iff s).mpr ⟨hpc, hop⟩) hpending hgie
        hentry h
    · exact sequencer_busy_onSchedule (w := s.popStrobe.latchPins) hc hrom htargets hlines hpending ((busy_iff s).mpr hrun)
        hdue h
  | true =>
    obtain ⟨hpc, hop, hpending⟩ := idle_of_event hs hev
    have hbusy := (busy_eq_false_iff s).mpr ⟨hpc, hop⟩
    obtain ⟨hfaults', hentry⟩ := atSequencer_event hstrobe (by rw [hev, hie]; rfl) hbusy hpending
    rw [← hfaults, ← hfaults']
    refine sequencer_entry_onSchedule hrom' ((atSequencer_busy s).trans hbusy) ?_ hgie' ?_ h
    · rw [atSequencer_pending, hev, hie, Bool.and_self, Bool.or_true]
    · rw [atSequencer_tcnt, hflag hev, atSequencer_cfg]
      exact (Nat.zero_add _).trans_le hentry

@[simp] theorem atSequencer_hostInit (s : State) : s.atSequencer.hostInit = s.hostInit.tail := by
  unfold State.atSequencer; split <;> simp

/-- From INIT on a tick is the Sequencer's, then the Frame Clock's (R106). -/
theorem sequencer_of_step (hi : s.inited = true) (h : step s = .next t) :
    ∃ u, sequencer s.atSequencer = .next u ∧ t = u.afterSequencer := by
  obtain ⟨-, ⟨-, hnot, -⟩ | ⟨-, hnot, -⟩ | ⟨-, u, hu, rfl⟩⟩ := step_cases h
  · simp [hi] at hnot
  · simp [hi] at hnot
  · exact ⟨u, hu, rfl⟩

/-- The line schedule is kept by every tick, whatever is drawn (R145). -/
theorem step_onSchedule (hs : s.OnSchedule) (h : step s = .next t) : t.OnSchedule := by
  have hc := inBudget_of_onSchedule hs
  have hlegal := liveLegal_of_onSchedule hs
  have hi := inited_of_onSchedule hs
  obtain ⟨hrom₀, htargets₀⟩ := tables_of_onSchedule hs
  obtain ⟨-, hlive, -⟩ := tickInvariant_liveLegal.step hlegal h
  obtain ⟨hcfg, hrom, htargets⟩ := (tickInvariant_sameTables s).step ⟨rfl, rfl, rfl⟩ h
  obtain ⟨u, hu, rfl⟩ := sequencer_of_step hi h
  obtain ⟨hfaults, hnext⟩ := sequencer_onSchedule hs hu
  obtain ⟨-, hlive', -⟩ := tickInvariant_liveLegal.sequencer (tickInvariant_liveLegal.atSequencer hlegal) hu
  have hframe := sequencer_frame hu
  have hc' : u.cfg.InBudget := by rwa [hframe.cfg, atSequencer_cfg]
  have hhost' : u.afterSequencer.hostInit = [] := by
    rw [State.afterSequencer, endTick_hostInit, frameClock_hostInit, hframe.hostInit, atSequencer_hostInit,
      hostInit_of_onSchedule hs]
    rfl
  refine ⟨hcfg ▸ hc.wf, hcfg ▸ hc.budget, hcfg ▸ hc.first, by rw [hrom, hcfg, hrom₀], by rw [htargets, hcfg, htargets₀],
    tickInvariant_inited.step hi h, hlive, (frameClock_faults u).trans hfaults, hhost', ?_⟩
  exact afterSequencer_onSchedule hc' hlive' hnext

/-- INIT puts a powered-on block within the line budget on schedule (R136, R145). -/
theorem init_onSchedule (hs : s.PoweredOn) (hbudget : s.cfg.lineBudget) (hfirst : s.cfg.activeStart ≤ 255) :
    step s = .next s.popStrobe.init.endTick ∧ s.popStrobe.init.endTick.OnSchedule := by
  obtain ⟨hwf, hrom, htargets, hi, -, hfaults, hhost⟩ := hs
  have hstrobe : s.strobe = true := by rw [State.strobe, hhost]; rfl
  have hlegal : s.popStrobe.faultsLegal := by
    rw [State.faultsLegal, State.raised, State.raised, popStrobe_faults, hfaults]
    decide
  obtain ⟨-, hlive, -⟩ := init_liveLegal (s := s.popStrobe) hwf hlegal
  refine ⟨step_init hwf hi hstrobe, hwf, hbudget, hfirst, hrom, htargets, rfl, hlive, hfaults, ?_, .inl ⟨rfl, rfl, rfl⟩⟩
  exact congrArg List.tail hhost

end Sys2Proof.Machine
end

/-! Proofs: the outputs, and the moves of a tick through the line programs (43_signal_driver.md R91, R106). -/
section
namespace Sys2Proof

variable {c : Config}

/-- An index of the ROM with an output write (R68, R69). -/
theorem Config.exists_write {k : Nat} (hk : k < 32)
    (hd : (∃ c3, decode c.rom[k] = .op (.setc c3)) ∨ decode c.rom[k] = .op .tgls) :
    ∃ (p : LineProgram) (j : Nat), j < p.writes ∧ k = p.base + 2 * j + 1 := by
  have hno {e : Slot} (he : c.slots[k]? = some e) (hset : ∀ c3, decode e.word ≠ .op (.setc c3))
      (htgl : decode e.word ≠ .op .tgls) : False := by
    rw [rom_of_slot hk he] at hd
    obtain ⟨c3, hd⟩ | hd := hd
    · exact hset c3 hd
    · exact htgl hd
  have hplain {i : Instr} (he : c.slots[k]? = some (Slot.plain i)) (hset : ∀ c3, i ≠ .setc c3) (htgl : i ≠ .tgls) : False :=
    hno he (fun c3 h => hset c3 (Decoded.op.inj ((decode_encode i).symm.trans h)))
      (fun h => htgl (Decoded.op.inj ((decode_encode i).symm.trans h)))
  obtain rfl | hpos := Nat.eq_zero_or_pos k
  · exact (hplain slots_disp nofun nofun).elim
  obtain hle | hgt := le_or_gt k 26
  · cases programIndex_of_mem hpos hle with
    | wait p j hj hk' =>
      subst hk'
      refine (hno (slots_wait p hj) (fun c3 h => ?_) fun h => ?_).elim
      all_goals cases (decode_encode _).symm.trans h
    | setc j hj hk' => exact ⟨.active, j, hj, hk'⟩
    | tgls hk' => exact ⟨.edge, 0, Nat.one_pos, hk'⟩
    | adv p hk' =>
      subst hk'
      exact (hplain (slots_adv p) nofun nofun).elim
    | ret p hk' =>
      subst hk'
      exact (hplain (slots_ret p) nofun nofun).elim
  · have hreserved : c.slots[k]? = some reservedSlot := by
      rw [slots_listed]
      interval_cases k <;> rfl
    refine (hno hreserved (fun c3 => ?_) ?_).elim
    all_goals simp [decode_reservedSlot]

theorem Config.decode_rom_wait (p : LineProgram) {j : Nat} (hj : j < p.writes) {k : Nat} (hk : k = p.base + 2 * j)
    (hlt : k < 32) : ∃ t8, decode c.rom[k] = .op (.wait t8) := by
  subst hk
  exact ⟨_, (congrArg decode (rom_of_slot hlt (slots_wait p hj))).trans (decode_encode _)⟩

namespace Machine

variable {s t u w : State}

/-! ### What changes the outputs (R91) -/

@[simp] theorem atSequencer_color (s : State) : s.atSequencer.color = s.color := by unfold State.atSequencer; split <;> simp
@[simp] theorem atSequencer_syncC (s : State) : s.atSequencer.syncC = s.syncC := by unfold State.atSequencer; split <;> simp

@[simp] theorem advance_color (s : State) : s.advance.color = s.color := by
  obtain ⟨-, h⟩ | ⟨-, -, h⟩ | ⟨-, -, -, h⟩ := advance_cases s <;> simp only [h, raise_color]

@[simp] theorem advance_syncC (s : State) : s.advance.syncC = s.syncC := by
  obtain ⟨-, h⟩ | ⟨-, -, h⟩ | ⟨-, -, -, h⟩ := advance_cases s <;> simp only [h, raise_syncC]

/-- The outputs of `t` are those of `s`, but for what `i` writes to them. -/
def State.OutputsAfter (s t : State) (i : Option Instr) : Prop :=
  (t.color ≠ s.color → i = some (.setc t.color)) ∧ (t.syncC ≠ s.syncC → i = some .tgls ∧ t.syncC = !s.syncC)

theorem outputsAfter_of_eq (i : Option Instr) (hcolor : t.color = s.color) (hsync : t.syncC = s.syncC) :
    s.OutputsAfter t i :=
  ⟨fun h => absurd hcolor h, fun h => absurd hsync h⟩

theorem exec_outputsAfter {i : Instr} (h : exec i s = .next t) : s.OutputsAfter t (some i) := by
  cases i with
  | wait t8 =>
    cases h
    split <;> exact outputsAfter_of_eq _ rfl rfl
  | setc c3 =>
    cases h
    exact ⟨fun _ => rfl, fun h => absurd rfl h⟩
  | tgls =>
    cases h
    exact ⟨fun h => absurd rfl h, fun _ => ⟨rfl, rfl⟩⟩
  | adv =>
    rw [exec_adv] at h
    injection h with h
    rw [← h]
    exact outputsAfter_of_eq _ (by simp) (by simp)
  | ret =>
    cases h
    exact outputsAfter_of_eq _ rfl rfl
  | disp =>
    cases h
    exact outputsAfter_of_eq _ rfl rfl

theorem issue_outputsAfter (hw : s.issuing = some w) (h : issue w = .next u) : w.OutputsAfter u s.issued := by
  obtain ⟨i, hd, hexec⟩ | ⟨e, -, rfl⟩ := issue_cases h
  · rw [issued_of_issuing hw hd]
    exact exec_outputsAfter hexec
  · exact outputsAfter_of_eq _ rfl rfl

theorem step_outputsAfter (hi : s.inited = true) (h : step s = .next t) : s.OutputsAfter t s.issued := by
  obtain ⟨u, hu, rfl⟩ := sequencer_of_step hi h
  have hseq : s.atSequencer.OutputsAfter u s.issued := by
    obtain ⟨-, -, rfl⟩ | ⟨-, -, -, -, rfl⟩ | ⟨henters, hissue⟩ | ⟨-, -, rfl⟩ | ⟨hbusy, hop, hissue⟩ := sequencer_cases hu
    · exact outputsAfter_of_eq _ rfl rfl
    · exact outputsAfter_of_eq _ rfl rfl
    · exact issue_outputsAfter (w := s.atSequencer.enterEvent) (issuing_of_enters hi henters) hissue
    · exact outputsAfter_of_eq _ rfl rfl
    · rw [atSequencer_busy] at hbusy
      rw [atSequencer_opcnt] at hop
      exact issue_outputsAfter (issuing_of_busy hi hbusy hop) hissue
  simpa [State.OutputsAfter, State.afterSequencer] using hseq

theorem decode_of_issued {i : Instr} (hw : s.issuing = some w) (h : s.issued = some i) :
    decode (w.romWord w.seqPc) = .op i := by
  simp only [State.issued, hw] at h
  split at h
  · simp_all
  · cases h

/-- Settles O38: a tick changes the outputs by a SETC or a TGLS only; in the ROM each stands after a WAIT; on schedule each is due
at its WAIT's exit. -/
theorem outputsWrittenOnlyAfterWaits : Obligations.OutputsWrittenOnlyAfterWaits := by
  refine ⟨fun s t h hi => ?_, fun c i hd => ?_, fun s w hs hw hissued => ?_⟩
  · obtain ⟨hcolor, hsync⟩ := step_outputsAfter hi h
    exact ⟨fun hne => ⟨_, hcolor hne, rfl⟩, hsync⟩
  · obtain ⟨p, j, hj, hk⟩ := Config.exists_write i.isLt hd
    obtain ⟨t8, ht8⟩ := c.decode_rom_wait p hj rfl (by omega)
    exact ⟨⟨p.base + 2 * j, by omega⟩, t8, hk.symm, ht8⟩
  · have hprog := issuing_atProgram (onProgram_of_onSchedule hs) hw
    have hd : (∃ c3, decode w.cfg.rom[w.seqPc.toNat] = .op (.setc c3)) ∨ decode w.cfg.rom[w.seqPc.toNat] = .op .tgls := by
      rw [← hprog.romWord_eq]
      exact hissued.imp (fun ⟨c3, h⟩ => ⟨c3, decode_of_issued hw h⟩) (decode_of_issued hw)
    obtain ⟨p, j, hj, hk⟩ := Config.exists_write w.seqPc.isLt hd
    obtain ⟨-, ⟨-, rfl⟩ | ⟨hbusy, hop, rfl⟩⟩ := issuing_cases hw
    · exact absurd hk (Nat.succ_ne_zero _).symm
    · have hne := seqPc_ne_idlePc hbusy hop
      rw [atSequencer_seqPc] at hne hk ⊢
      rw [atSequencer_opcnt] at hop
      obtain ⟨-, -, hdue⟩ := due_of_onSchedule hs hne
      rw [hop, Nat.add_zero, Config.due_write hj hk] at hdue
      obtain ⟨-, htargets⟩ := tables_of_onSchedule hs
      have hprev : (s.seqPc - 1).toNat = p.base + 2 * j := by bv_omega
      have hslot : s.cfg.slots[(s.seqPc - 1).toNat]? = some (Slot.wait (s.cfg.writeTarget j)) :=
        hprev ▸ Config.slots_wait p hj
      exact ⟨_, target_of_slot htargets hslot, hdue⟩

end Machine
end Sys2Proof
end

/-! Proofs: the moves of a tick through the line programs, and what the outputs hold between them (43_signal_driver.md R101, R102). -/
section
namespace Sys2Proof

/-- The line program of a line (R97). -/
def LineProgram.of (p : Phase) (r : BitVec 16) : LineProgram :=
  if p = .activeVideo then .active else if (p = .syncPulse ∨ p = .frontPorch) ∧ r = 1 then .edge else .plain

theorem LineProgram.of_eq_edge_iff (p : Phase) (r : BitVec 16) :
    LineProgram.of p r = .edge ↔ (p = .syncPulse ∨ p = .frontPorch) ∧ r = 1 := by
  unfold LineProgram.of
  split
  case isTrue h => simp [h]
  case isFalse =>
    split
    case isTrue h => exact iff_of_true rfl h
    case isFalse h => exact iff_of_false nofun h

theorem LineProgram.upToAdv_base (p : LineProgram) : p.UpToAdv p.base := ⟨le_rfl, Nat.le_add_right _ _⟩

theorem LineProgram.not_upToAdv_idle (p : LineProgram) : ¬p.UpToAdv 31 := by
  cases p <;> simp [UpToAdv, base, writes]

theorem LineProgram.not_upToAdv_ret (p q : LineProgram) : ¬q.UpToAdv (p.base + 2 * p.writes + 1) := by
  cases p <;> cases q <;> simp [UpToAdv, base, writes]

theorem LineProgram.UpToAdv.toNat_succ {p : LineProgram} {i : RomIndex} (h : p.UpToAdv i.toNat) :
    (i + 1).toNat = i.toNat + 1 := by
  have hle : i.toNat ≤ 25 := h.2.trans (by cases p <;> decide)
  bv_omega

theorem LineProgram.ret_ne_idle (p : LineProgram) : p.base + 2 * p.writes + 1 ≠ 31 := by
  cases p <;> decide

theorem LineProgram.upToAdv_active_iff {k : Nat} : LineProgram.active.UpToAdv k ↔ 1 ≤ k ∧ k ≤ 19 := Iff.rfl

theorem LineProgram.upToAdv_edge_last : LineProgram.edge.UpToAdv 23 := ⟨by decide, by decide⟩

theorem LineProgram.base_odd (p : LineProgram) : p.base % 2 = 1 := by
  cases p <;> rfl

/-- The colour that the line programs hold at an index: that of the last write before it, and blank outside the bands (R101). -/
def Config.colourHeld (c : Config) (k : Nat) : Colour := if k < 3 then 0 else c.writeColour ((k - 3) / 2)

theorem Config.colourHeld_of_ge (c : Config) {k : Nat} (hk : 19 ≤ k) : c.colourHeld k = 0 := by
  rw [colourHeld, if_neg (by omega), writeColour, dif_neg (by omega)]

theorem Config.colourHeld_base (c : Config) (p : LineProgram) : c.colourHeld p.base = 0 := by
  cases p
  case active => rfl
  all_goals exact c.colourHeld_of_ge (by decide)

/-- A WAIT and an ADV hold the colour. -/
theorem Config.colourHeld_succ (c : Config) {k : Nat} (hk : k % 2 = 1) : c.colourHeld (k + 1) = c.colourHeld k := by
  have hhalf : (k + 1 - 3) / 2 = (k - 3) / 2 := by omega
  simp only [colourHeld, hhalf, show (k + 1 < 3) = (k < 3) from propext (by omega)]

theorem Config.colourHeld_of_not_active (c : Config) {k : Nat} (hk : ¬LineProgram.active.UpToAdv k) : c.colourHeld k = 0 := by
  obtain rfl | hpos := Nat.eq_zero_or_pos k
  · rfl
  · refine c.colourHeld_of_ge ?_
    by_contra hlt
    exact hk (LineProgram.upToAdv_active_iff.mpr (by omega))

/-- In `P_ACTIVE` the colour is that of the writes before the index. -/
theorem Config.colourHeld_of_active (c : Config) {k : Nat} (hk : LineProgram.active.UpToAdv k) :
    c.colourHeld k = c.colourHeld (1 + 2 * ((k - LineProgram.active.base) / 2)) := by
  obtain ⟨hlo, -⟩ := hk
  simp only [LineProgram.base] at hlo ⊢
  obtain heq | heq : k = 1 + 2 * ((k - 1) / 2) ∨ k = 1 + 2 * ((k - 1) / 2) + 1 := by omega
  · rw [← heq]
  · rw [← c.colourHeld_succ (k := 1 + 2 * ((k - 1) / 2)) (by omega), ← heq]

/-- The sync output at its idle level or away from it (R12, R102). -/
def Config.syncLevel (c : Config) (away : Bool) : Bool := if away then !c.syncIdleLevel else c.syncIdleLevel

theorem Config.not_syncLevel (c : Config) (away : Bool) : (!c.syncLevel away) = c.syncLevel !away := by
  cases away <;> simp [syncLevel]

namespace Machine

variable {s t u w : State}

theorem select_toNat (p : Phase) (r : BitVec 16) : (select p r).toNat = (LineProgram.of p r).base := by
  unfold select LineProgram.of
  split
  · rfl
  · split <;> rfl

/-- The Sequencer's index, the Phase State Machine and the outputs. -/
structure View where
  seqPc : RomIndex
  phase : Phase
  linesRem : BitVec 16
  color : Colour
  syncC : Bool

def State.view (s : State) : View := ⟨s.seqPc, s.phase, s.linesRem, s.color, s.syncC⟩

@[simp] theorem atSequencer_view (s : State) : s.atSequencer.view = s.view := by simp [State.view]

@[simp] theorem afterSequencer_view (u : State) : u.afterSequencer.view = u.view := by simp [State.view, State.afterSequencer]

@[simp] theorem afterSequencer_pending (u : State) : u.afterSequencer.pending = u.pending := by simp [State.afterSequencer]

theorem advance_view_congr (hcfg : w.cfg = s.cfg) (hview : w.view = s.view) : w.advance.view = s.advance.view := by
  simp only [State.view, View.mk.injEq] at hview
  obtain ⟨hpc, hphase, hlines, hcolor, hsync⟩ := hview
  unfold State.advance
  rw [hcfg, hphase, hlines]
  split
  · simp [State.view, *]
  · split <;> simp [State.view, *]

/-- What a tick from INIT on does to the view: nothing, or the entry of an event, or one micro-op of a line program. -/
inductive State.Move (s t : State) : Prop
  | stay (hpending : t.pending = s.atSequencer.pending) (hv : t.view = s.view)
  | enter (hidle : s.seqPc = idlePc) (hawait : s.atSequencer.pending = true)
      (hv : t.view = { s.view with seqPc := select s.phase s.linesRem })
  | wait (p : LineProgram) (j : Nat) (hj : j < p.writes) (hk : s.seqPc.toNat = p.base + 2 * j)
      (hv : t.view = { s.view with seqPc := s.seqPc + 1 })
  | setc (j : Nat) (hj : j < 9) (hk : s.seqPc.toNat = 1 + 2 * j + 1) (hop : s.opcnt = 0)
      (hv : t.view = { s.view with seqPc := s.seqPc + 1, color := s.cfg.writeColour j })
  | tgls (hk : s.seqPc.toNat = 22) (hop : s.opcnt = 0)
      (hv : t.view = { s.view with seqPc := s.seqPc + 1, syncC := !s.syncC })
  | adv (p : LineProgram) (hk : s.seqPc.toNat = p.base + 2 * p.writes)
      (hv : t.view = { s.advance.view with seqPc := s.seqPc + 1 })
  | ret (p : LineProgram) (hk : s.seqPc.toNat = p.base + 2 * p.writes + 1) (hpending : t.pending = s.atSequencer.pending)
      (hv : t.view = { s.view with seqPc := idlePc })

theorem exec_wait_view {t8 : BitVec 8} (h : exec (.wait t8) s = .next t) : t.view = { s.view with seqPc := s.seqPc + 1 } := by
  rw [exec_wait] at h
  cases h
  split <;> rfl

theorem exec_setc_view {c3 : Colour} (h : exec (.setc c3) s = .next t) :
    t.view = { s.view with seqPc := s.seqPc + 1, color := c3 } := by
  cases h
  rfl

theorem exec_tgls_view (h : exec .tgls s = .next t) :
    t.view = { s.view with seqPc := s.seqPc + 1, syncC := !s.syncC } := by
  cases h
  rfl

theorem exec_adv_view (h : exec .adv s = .next t) : t.view = { s.advance.view with seqPc := s.seqPc + 1 } := by
  rw [exec_adv] at h
  cases h
  rw [← advance_seqPc s]
  rfl

theorem exec_ret_view (h : exec .ret s = .next t) : t.view = { s.view with seqPc := idlePc } := by
  cases h
  rfl

theorem exec_disp_view (h : exec .disp s = .next t) :
    t.view = { s.view with seqPc := select s.phase s.linesRem } := by
  cases h
  rfl

/-- The micro-op that a busy Sequencer issues in a line program, as a move. -/
theorem move_of_issue (hs : s.OnProgram) (hbusy : s.busy = true) (hop : s.opcnt = 0) (h : issue s.atSequencer = .next u) :
    s.Move u.afterSequencer := by
  obtain ⟨-, hrom, hlegal, -⟩ := hs
  obtain ⟨hpos, hle⟩ := hlegal.resolve_left (seqPc_ne_idlePc hbusy hop)
  have hprog : s.atSequencer.AtProgram := ⟨atSequencer_rom_eq hrom, by rwa [atSequencer_seqPc]⟩
  have hexec {i : Instr} (he : s.cfg.slots[s.seqPc.toNat]? = some (Slot.plain i)) : exec i s.atSequencer = .next u := by
    rwa [hprog.issue_plain (by rwa [atSequencer_cfg, atSequencer_seqPc])] at h
  cases programIndex_of_mem hpos hle with
  | wait p j hj hk =>
    have hslot := hk ▸ Config.slots_wait (c := s.cfg) p hj
    rw [hprog.issue_wait (by rwa [atSequencer_cfg, atSequencer_seqPc])] at h
    refine .wait p j hj hk ?_
    rw [afterSequencer_view, exec_wait_view h, atSequencer_view, atSequencer_seqPc]
  | setc j hj hk =>
    refine .setc j hj hk hop ?_
    rw [afterSequencer_view, exec_setc_view (hexec (hk ▸ Config.slots_setc hj)), atSequencer_view, atSequencer_seqPc]
  | tgls hk =>
    refine .tgls hk hop ?_
    rw [afterSequencer_view, exec_tgls_view (hexec (hk ▸ Config.slots_tgls)), atSequencer_view, atSequencer_seqPc,
      atSequencer_syncC]
  | adv p hk =>
    refine .adv p hk ?_
    rw [afterSequencer_view, exec_adv_view (hexec (hk ▸ Config.slots_adv p)), atSequencer_seqPc,
      advance_view_congr (atSequencer_cfg s) (atSequencer_view s)]
  | ret p hk =>
    have hret := hexec (hk ▸ Config.slots_ret p)
    refine .ret p hk ((afterSequencer_pending u).trans (exec_pending hret)) ?_
    rw [afterSequencer_view, exec_ret_view hret, atSequencer_view]

theorem move_of_step (hs : s.OnProgram) (hi : s.inited = true) (h : step s = .next t) : s.Move t := by
  obtain ⟨hwf, hrom, hrest⟩ := hs
  obtain ⟨u, hu, rfl⟩ := sequencer_of_step hi h
  have hstay (hpending : u.pending = s.atSequencer.pending) (hv : u.view = s.atSequencer.view) : s.Move u.afterSequencer :=
    .stay ((afterSequencer_pending u).trans hpending) ((afterSequencer_view u).trans (hv.trans (atSequencer_view s)))
  obtain ⟨-, -, rfl⟩ | ⟨-, -, -, -, rfl⟩ | ⟨henters, hissue⟩ | ⟨-, -, rfl⟩ | ⟨hbusy, hop, hissue⟩ := sequencer_cases hu
  · exact hstay rfl rfl
  · exact hstay rfl rfl
  · obtain ⟨hidle, hpending, -⟩ := (enters_iff _).mp henters
    rw [atSequencer_busy, busy_eq_false_iff] at hidle
    have hprog := enterEvent_atProgram (w := s.atSequencer) (atSequencer_rom_eq hrom)
    rw [hprog.issue_plain Config.slots_disp] at hissue
    refine .enter hidle.1 hpending ?_
    rw [afterSequencer_view, exec_disp_view hissue, enterEvent_phase, enterEvent_linesRem, atSequencer_phase,
      atSequencer_linesRem, ← atSequencer_view s]
    rfl
  · exact hstay rfl rfl
  · rw [atSequencer_busy] at hbusy
    rw [atSequencer_opcnt] at hop
    exact move_of_issue ⟨hwf, hrom, hrest⟩ hbusy hop hissue

/-! ### What the outputs hold at an index -/

/-- Up to its ADV a line program runs on its own lines (R97); `COLOR` is that of the index (R101); and `SYNC_C` is away from its
idle level in SyncPulse, but that `P_EDGE` toggles it before its ADV changes the phase (R102). -/
structure View.Consistent (c : Config) (v : View) : Prop where
  program : ∀ p : LineProgram, p.UpToAdv v.seqPc.toNat → LineProgram.of v.phase v.linesRem = p
  color : v.color = c.colourHeld v.seqPc.toNat
  sync : v.syncC = c.syncLevel (decide (v.phase = .syncPulse) ^^ decide (v.seqPc.toNat = 23))

/-- On a line of `P_EDGE`, ADV goes into SyncPulse or out of it (R99). -/
theorem advance_syncPulse_of_edge (hwf : s.cfg.wellFormed = true) (hedge : LineProgram.of s.phase s.linesRem = .edge) :
    decide (s.advance.phase = .syncPulse) = !decide (s.phase = .syncPulse) := by
  obtain ⟨hphase, hone⟩ := (LineProgram.of_eq_edge_iff _ _).mp hedge
  rw [advance_of_last (congrArg BitVec.toNat hone) (Config.count_mem hwf s.phase).1]
  obtain hphase | hphase := hphase <;> rw [hphase] <;> rfl

/-- On every other line, ADV neither goes into SyncPulse nor out of it. -/
theorem advance_syncPulse_of_ne_edge {p : LineProgram} (hof : LineProgram.of s.phase s.linesRem = p) (hp : p ≠ .edge) :
    decide (s.advance.phase = .syncPulse) = decide (s.phase = .syncPulse) := by
  obtain ⟨-, h⟩ | ⟨hone, -, h⟩ | ⟨-, -, -, h⟩ := advance_cases s <;> rw [h]
  · rfl
  · have hphase : ¬(s.phase = .syncPulse ∨ s.phase = .frontPorch) := fun hphase =>
      hp (hof.symm.trans ((LineProgram.of_eq_edge_iff _ _).mpr ⟨hphase, hone⟩))
    cases hp : s.phase
    case syncPulse => exact absurd (.inl hp) hphase
    case backPorch => rfl
    case activeVideo => rfl
    case frontPorch => exact absurd (.inr hp) hphase

section
variable {c : Config} {v : View} (hv : v.Consistent c)
include hv

/-- From index to index of one line program, up to its ADV. -/
theorem View.Consistent.program_within {p : LineProgram} {i : RomIndex} (hold : p.UpToAdv v.seqPc.toNat)
    (hnew : p.UpToAdv i.toNat) (q : LineProgram) (hq : q.UpToAdv i.toNat) : LineProgram.of v.phase v.linesRem = q :=
  (hv.program p hold).trans (hnew.unique hq)

/-- From index to index away from the ADV of `P_EDGE`. -/
theorem View.Consistent.sync_away {i : RomIndex} (hold : v.seqPc.toNat ≠ 23) (hnew : i.toNat ≠ 23) :
    v.syncC = c.syncLevel (decide (v.phase = .syncPulse) ^^ decide (i.toNat = 23)) := by
  rw [hv.sync, decide_eq_false hold, decide_eq_false hnew]

theorem View.Consistent.enter (hidle : v.seqPc = idlePc) :
    View.Consistent c { v with seqPc := select v.phase v.linesRem } := by
  have hk := select_toNat v.phase v.linesRem
  have hne : (select v.phase v.linesRem).toNat ≠ 23 := by
    rw [hk]
    cases LineProgram.of v.phase v.linesRem <;> decide
  refine ⟨fun p hp => ?_, ?_, hv.sync_away (by rw [hidle]; decide) hne⟩
  · change p.UpToAdv (select v.phase v.linesRem).toNat at hp
    rw [hk] at hp
    exact (LineProgram.upToAdv_base _).unique hp
  · change v.color = c.colourHeld (select v.phase v.linesRem).toNat
    rw [hv.color, hidle, hk, Config.colourHeld_base]
    exact c.colourHeld_of_ge (by decide)

theorem View.Consistent.wait {p : LineProgram} {j : Nat} (hj : j < p.writes) (hk : v.seqPc.toNat = p.base + 2 * j) :
    View.Consistent c { v with seqPc := v.seqPc + 1 } := by
  have hodd := p.base_odd
  have hold : p.UpToAdv v.seqPc.toNat := ⟨by omega, by omega⟩
  have hk' := hold.toNat_succ
  have hnew : p.UpToAdv (v.seqPc + 1).toNat := ⟨by omega, by omega⟩
  have hne : v.seqPc.toNat ≠ 23 := by cases p <;> simp only [LineProgram.base, LineProgram.writes] at hk hj <;> omega
  have hne' : (v.seqPc + 1).toNat ≠ 23 := by omega
  refine ⟨hv.program_within hold hnew, ?_, hv.sync_away hne hne'⟩
  change v.color = c.colourHeld (v.seqPc + 1).toNat
  rw [hk', Config.colourHeld_succ _ (by omega), hv.color]

theorem View.Consistent.setc {j : Nat} (hj : j < 9) (hk : v.seqPc.toNat = 1 + 2 * j + 1) :
    View.Consistent c { v with seqPc := v.seqPc + 1, color := c.writeColour j } := by
  have hold : LineProgram.active.UpToAdv v.seqPc.toNat := LineProgram.upToAdv_active_iff.mpr (by omega)
  have hk' := hold.toNat_succ
  have hnew : LineProgram.active.UpToAdv (v.seqPc + 1).toNat := LineProgram.upToAdv_active_iff.mpr (by omega)
  have hne' : (v.seqPc + 1).toNat ≠ 23 := by omega
  refine ⟨hv.program_within hold hnew, ?_, hv.sync_away (by omega) hne'⟩
  change c.writeColour j = c.colourHeld (v.seqPc + 1).toNat
  rw [Config.colourHeld, if_neg (by omega)]
  congr 1
  omega

theorem View.Consistent.tgls (hk : v.seqPc.toNat = 22) :
    View.Consistent c { v with seqPc := v.seqPc + 1, syncC := !v.syncC } := by
  have hold : LineProgram.edge.UpToAdv v.seqPc.toNat := by rw [hk]; exact ⟨by decide, by decide⟩
  have hk' : (v.seqPc + 1).toNat = 23 := hold.toNat_succ.trans (congrArg (· + 1) hk)
  have hnew : LineProgram.edge.UpToAdv (v.seqPc + 1).toNat := hk' ▸ LineProgram.upToAdv_edge_last
  refine ⟨hv.program_within hold hnew, ?_, ?_⟩
  · change v.color = c.colourHeld (v.seqPc + 1).toNat
    rw [hv.color, hk, hk', Config.colourHeld_of_ge _ (by decide), Config.colourHeld_of_ge _ (by decide)]
  · change (!v.syncC) = c.syncLevel (decide (v.phase = .syncPulse) ^^ decide ((v.seqPc + 1).toNat = 23))
    rw [hv.sync, hk, hk', Config.not_syncLevel]
    simp

theorem View.Consistent.ret {p : LineProgram} (hk : v.seqPc.toNat = p.base + 2 * p.writes + 1) :
    View.Consistent c { v with seqPc := idlePc } := by
  have hodd := p.base_odd
  have hlate : 19 ≤ p.base + 2 * p.writes + 1 := by cases p <;> decide
  have hne : idlePc.toNat ≠ 23 := by decide
  refine ⟨fun q hq => absurd hq q.not_upToAdv_idle, ?_, hv.sync_away (by omega) hne⟩
  change v.color = c.colourHeld 31
  rw [hv.color, hk, Config.colourHeld_of_ge _ hlate, Config.colourHeld_of_ge _ (by decide)]

end

/-- The ADV of `P_EDGE` takes over the toggle into the phase; no other goes into SyncPulse or out of it. -/
theorem consistent_adv (hwf : s.cfg.wellFormed = true) (hc : s.view.Consistent s.cfg) {p : LineProgram}
    (hk : s.seqPc.toNat = p.base + 2 * p.writes) :
    View.Consistent s.cfg { s.advance.view with seqPc := s.seqPc + 1 } := by
  have hodd := p.base_odd
  have hold : p.UpToAdv s.seqPc.toNat := ⟨by omega, hk.le⟩
  have hk' := hold.toNat_succ
  have hne' : (s.seqPc + 1).toNat ≠ 23 := by omega
  have hof : LineProgram.of s.phase s.linesRem = p := hc.program p hold
  have hcolor : s.color = s.cfg.colourHeld s.seqPc.toNat := hc.color
  have hsync : s.syncC = s.cfg.syncLevel (decide (s.phase = .syncPulse) ^^ decide (s.seqPc.toNat = 23)) := hc.sync
  refine ⟨fun q hq => ?_, ?_, ?_⟩
  · change q.UpToAdv (s.seqPc + 1).toNat at hq
    rw [hk', hk] at hq
    exact absurd hq (p.not_upToAdv_ret q)
  · change s.advance.color = s.cfg.colourHeld (s.seqPc + 1).toNat
    rw [hk', Config.colourHeld_succ _ (by omega), advance_color, hcolor]
  · change s.advance.syncC = s.cfg.syncLevel (decide (s.advance.phase = .syncPulse) ^^ decide ((s.seqPc + 1).toNat = 23))
    rw [advance_syncC, hsync, decide_eq_false hne']
    cases p with
    | edge => simp [advance_syncPulse_of_edge hwf hof, hk, LineProgram.base, LineProgram.writes]
    | active => simp [advance_syncPulse_of_ne_edge hof nofun, hk, LineProgram.base, LineProgram.writes]
    | plain => simp [advance_syncPulse_of_ne_edge hof nofun, hk, LineProgram.base, LineProgram.writes]

theorem consistent_of_move (hwf : s.cfg.wellFormed = true) (hc : s.view.Consistent s.cfg) (hm : s.Move t) :
    t.view.Consistent s.cfg := by
  cases hm with
  | stay hpending hv => exact hv ▸ hc
  | enter hidle hawait hv => exact hv ▸ hc.enter hidle
  | wait p j hj hk hv => exact hv ▸ hc.wait hj hk
  | setc j hj hk hop hv => exact hv ▸ hc.setc hj hk
  | tgls hk hop hv => exact hv ▸ hc.tgls hk
  | adv p hk hv => exact hv ▸ consistent_adv hwf hc hk
  | ret p hk hpending hv => exact hv ▸ hc.ret hk

end Machine
end Sys2Proof
end

/-! Proofs: the place of a line in the field, and the expected waveform (43_signal_driver.md R101, R102, R109). -/
section
namespace Sys2Proof

/-! ### The field, from its first FrontPorch line (R139) -/

/-- How many lines of a field, which starts with FrontPorch, come before a phase (R22, R139). -/
def Config.placeBefore (c : Config) : Phase → Nat
  | .frontPorch => 0
  | .syncPulse => c.vFpLines
  | .backPorch => c.vFpLines + c.vSyncLines
  | .activeVideo => c.vFpLines + c.vSyncLines + c.vBpLines

/-- The line program of the line at a place of the field (R97, R99). -/
def Config.programAt (c : Config) (m : Nat) : LineProgram :=
  if c.phaseAt m = .activeVideo then .active
  else if m + 1 = c.vFpLines ∨ m + 1 = c.vFpLines + c.vSyncLines then .edge
  else .plain

variable {c : Config} {m n : Nat}

theorem Config.phaseAt_eq_syncPulse_iff :
    c.phaseAt m = .syncPulse ↔ c.vFpLines ≤ m ∧ m < c.vFpLines + c.vSyncLines := by
  unfold phaseAt
  split
  · simp; omega
  · split
    · simp; omega
    · split <;> simp <;> omega

theorem Config.phaseAt_eq_activeVideo_iff :
    c.phaseAt m = .activeVideo ↔ c.vFpLines + c.vSyncLines + c.vBpLines ≤ m := by
  unfold phaseAt
  split
  · simp; omega
  · split
    · simp; omega
    · split <;> simp <;> omega

theorem Config.programAt_eq_active_iff : c.programAt m = .active ↔ c.phaseAt m = .activeVideo := by
  unfold programAt
  split
  case isTrue h => exact iff_of_true rfl h
  case isFalse h =>
    refine iff_of_false ?_ h
    split <;> nofun

/-- The phases tile the field. -/
theorem Config.phaseAt_of_place {p : Phase} {r : Nat} (hm : m = c.placeBefore p + r) (hr : r < c.count p) :
    c.phaseAt m = p := by
  unfold phaseAt
  cases p <;> simp only [count, placeBefore] at hr hm
  case frontPorch => rw [if_pos (by omega)]
  case syncPulse => rw [if_neg (by omega), if_pos (by omega)]
  case backPorch => rw [if_neg (by omega), if_neg (by omega), if_pos (by omega)]
  case activeVideo => rw [if_neg (by omega), if_neg (by omega), if_neg (by omega)]

/-- On a line of `P_EDGE` the field goes into SyncPulse or out of it (R99). -/
theorem Config.syncPulse_succ_of_edge (hwf : c.wellFormed = true) (hm : c.programAt m = .edge) :
    c.phaseAt (m + 1) = .syncPulse ↔ ¬c.phaseAt m = .syncPulse := by
  have hsync : 1 ≤ c.vSyncLines := (count_mem hwf .syncPulse).1
  have hlast : m + 1 = c.vFpLines ∨ m + 1 = c.vFpLines + c.vSyncLines := by
    by_contra hnot
    rw [programAt, if_neg hnot] at hm
    split at hm <;> cases hm
  rw [phaseAt_eq_syncPulse_iff, phaseAt_eq_syncPulse_iff]
  omega

theorem Config.syncPulse_succ_of_ne_edge {p : LineProgram} (hm : c.programAt m = p) (hp : p ≠ .edge) :
    c.phaseAt (m + 1) = .syncPulse ↔ c.phaseAt m = .syncPulse := by
  have hlast : ¬(m + 1 = c.vFpLines ∨ m + 1 = c.vFpLines + c.vSyncLines) := by
    intro hlast
    have hnot : ¬c.phaseAt m = .activeVideo := by
      rw [phaseAt_eq_activeVideo_iff]
      omega
    rw [programAt, if_neg hnot, if_pos hlast] at hm
    exact hp hm.symm
  rw [phaseAt_eq_syncPulse_iff, phaseAt_eq_syncPulse_iff]
  omega

/-- The field after its last line is as before its first: outside SyncPulse. -/
theorem Config.syncPulse_mod (hwf : c.wellFormed = true) (hm : m < c.vFullLines) :
    c.phaseAt ((m + 1) % c.vFullLines) = .syncPulse ↔ c.phaseAt (m + 1) = .syncPulse := by
  have hfp : 1 ≤ c.vFpLines := (count_mem hwf .frontPorch).1
  have hbp : 1 ≤ c.vBpLines := (count_mem hwf .backPorch).1
  obtain hlt | heq := (Nat.succ_le_of_lt hm).lt_or_eq
  · rw [Nat.mod_eq_of_lt hlt]
  · rw [Nat.succ_eq_add_one] at heq
    rw [heq, Nat.mod_self, phaseAt_eq_syncPulse_iff, phaseAt_eq_syncPulse_iff, vFullLines]
    omega

/-! ### The waveform, by the writes that are over -/

/-- At offset `o` of a line, `j` writes of its line program are over, and the others are to come. -/
def Config.WritesOver (c : Config) (p : LineProgram) (o j : Nat) : Prop :=
  (∀ i, i < j → c.writeAt i < o) ∧ ∀ i, j ≤ i → i < p.writes → o ≤ c.writeAt i

/-- `COLOR` on an ActiveVideo line is what its program holds after the writes that are over (R101). -/
theorem Config.activeColour_eq {o j : Nat} (hj : j ≤ 9) (h : c.WritesOver .active o j) :
    c.activeColour o = c.colourHeld (1 + 2 * j) := by
  obtain ⟨hover, hcome⟩ := h
  have hwrite (i : Nat) (hi : i < 9) : (o ≤ c.writeAt i) = (j ≤ i) :=
    propext ⟨fun hle => not_lt.mp fun hij => (hover i hij).not_ge hle, fun hji => hcome i hji hi⟩
  have hband (i : Nat) (hi : i < 8) : (o ≤ c.bandStart i + c.waitB.ticks) = (j ≤ i) := by
    rw [← hwrite i (by omega), writeAt, writeTarget, if_pos hi]
  have hend : (o ≤ c.activeEnd + c.waitB.ticks) = (j ≤ 8) := hwrite 8 (by decide)
  simp (disch := decide) only [activeColour, hband, hend]
  interval_cases j <;> rfl

theorem Config.waveColour_of_active (hn : 1 ≤ c.lineOf n) (hm : c.programAt (c.placeOf (c.lineOf n)) = .active) :
    c.waveColour n = c.activeColour (c.offsetOf n) :=
  if_pos ⟨hn, programAt_eq_active_iff.mp hm⟩

theorem Config.waveColour_of_not_active (hn : 1 ≤ c.lineOf n → c.programAt (c.placeOf (c.lineOf n)) ≠ .active) :
    c.waveColour n = 0 :=
  if_neg fun ⟨hline, hphase⟩ => hn hline (programAt_eq_active_iff.mpr hphase)

/-- `SYNC_C` is that of the line's place until its toggle, and that of the next place after it (R102). -/
theorem Config.waveSync_eq (hwf : c.wellFormed = true) (hn : 1 ≤ c.lineOf n) {m : Nat} (hm : c.placeOf (c.lineOf n) = m) :
    c.waveSync n =
      c.syncLevel (decide (c.phaseAt (if c.writeAt 0 < c.offsetOf n then m + 1 else m) = .syncPulse)) := by
  have hfp : 1 ≤ c.vFpLines := (count_mem hwf .frontPorch).1
  have hsync : 1 ≤ c.vSyncLines := (count_mem hwf .syncPulse).1
  simp only [waveSync, hm, syncLevel, writeAt, writeTarget_zero, decide_eq_true_eq, decide_eq_false_iff_not,
    phaseAt_eq_syncPulse_iff]
  refine if_congr ?_ rfl rfl
  split <;> omega

theorem Config.waveSync_line_zero (hn : c.lineOf n = 0) : c.waveSync n = c.syncIdleLevel := by
  simp [waveSync, hn]

namespace Machine

variable {s t : State}

/-- The place of the Phase State Machine's line in the field that starts with FrontPorch. -/
def State.place (s : State) : Nat := s.cfg.placeBefore s.phase + (s.cfg.count s.phase - s.linesRem.toNat)

theorem State.CountsLines.place_eq (hs : s.CountsLines) : s.place = (s.fieldLine + s.cfg.vFpLines) % s.cfg.vFullLines := by
  have hlt : s.place < s.cfg.vFullLines := by
    obtain ⟨-, hpos, hle⟩ := hs
    unfold State.place
    cases hp : s.phase <;> simp only [hp, Config.count, Config.placeBefore, Config.vFullLines] at hle ⊢ <;> omega
  by_cases hp : s.phase = .frontPorch
  · have hsum : s.fieldLine + s.cfg.vFpLines = s.place + s.cfg.vFullLines := by
      simp only [State.fieldLine, State.place, hp, Config.linesBefore, Config.placeBefore, Config.vFullLines]
      omega
    rw [hsum, Nat.add_mod_right, Nat.mod_eq_of_lt hlt]
  · have hsum : s.fieldLine + s.cfg.vFpLines = s.place := by
      unfold State.fieldLine State.place
      cases hp' : s.phase
      case frontPorch => exact absurd hp' hp
      all_goals
        simp only [Config.linesBefore, Config.placeBefore]
        omega
    rw [hsum, Nat.mod_eq_of_lt hlt]

/-- Each ADV goes to the next place of the field. -/
theorem State.CountsLines.place_afterAdv (hs : s.CountsLines) : s.afterAdv.place = (s.place + 1) % s.cfg.vFullLines := by
  rw [hs.afterAdv.place_eq, hs.fieldLine_afterAdv, hs.place_eq, afterAdv_cfg, Nat.mod_add_mod, Nat.mod_add_mod,
    Nat.add_right_comm]

theorem State.CountsLines.phaseAt_place (hs : s.CountsLines) : s.cfg.phaseAt s.place = s.phase := by
  obtain ⟨-, hpos, hle⟩ := hs
  exact Config.phaseAt_of_place rfl (by omega)

/-- The line program that DISP selects is that of the line's place (R97, R99). -/
theorem State.CountsLines.programAt_place (hs : s.CountsLines) :
    s.cfg.programAt s.place = LineProgram.of s.phase s.linesRem := by
  have hphase := hs.phaseAt_place
  obtain ⟨hwf, hpos, hle⟩ := hs
  have hsync : 1 ≤ s.cfg.vSyncLines := (Config.count_mem hwf .syncPulse).1
  have hlast : (s.place + 1 = s.cfg.vFpLines ∨ s.place + 1 = s.cfg.vFpLines + s.cfg.vSyncLines) ↔
      (s.phase = .syncPulse ∨ s.phase = .frontPorch) ∧ s.linesRem = 1 := by
    rw [← BitVec.toNat_inj]
    unfold State.place
    cases hp : s.phase <;> simp only [hp, Config.count, Config.placeBefore] at hle ⊢ <;> simp <;> omega
  simp only [Config.programAt, LineProgram.of, hphase, hlast]

end Machine
end Sys2Proof
end

/-! Proofs: the waveform from INIT on (43_signal_driver.md R101, R102, R104, R108, R109; 70_reset_and_hazards.md R149). -/
section
namespace Sys2Proof

theorem Config.lineOf_offsetOf_succ (c : Config) (n : Nat) (hlt : c.offsetOf n < c.hFullLineNbTicks) :
    (c.offsetOf n + 1 < c.hFullLineNbTicks → c.lineOf (n + 1) = c.lineOf n ∧ c.offsetOf (n + 1) = c.offsetOf n + 1) ∧
      (c.offsetOf n + 1 = c.hFullLineNbTicks → c.lineOf (n + 1) = c.lineOf n + 1 ∧ c.offsetOf (n + 1) = 0) := by
  have hpos : 0 < c.hFullLineNbTicks := by omega
  have hsplit : c.offsetOf n + c.hFullLineNbTicks * c.lineOf n = n := Nat.mod_add_div n c.hFullLineNbTicks
  constructor
  · intro hwithin
    exact (Nat.div_mod_unique hpos).mpr ⟨by omega, hwithin⟩
  · intro hend
    refine (Nat.div_mod_unique hpos).mpr ⟨?_, hpos⟩
    rw [Nat.mul_succ]
    omega

/-- The place of the next line. -/
theorem Config.placeOf_succ (c : Config) {k : Nat} (hk : 1 ≤ k) : c.placeOf (k + 1) = (c.placeOf k + 1) % c.vFullLines := by
  rw [placeOf, placeOf, Nat.mod_add_mod, Nat.add_sub_cancel, Nat.sub_add_cancel hk]

theorem Config.writeAt_mono {c : Config} (hwf : c.wellFormed = true) : Monotone c.writeAt := by
  refine monotone_nat_of_le_succ fun j => Nat.add_le_add_right ?_ _
  obtain hj | hj := Nat.lt_or_ge j 8
  · exact (Nat.le_add_right _ _).trans (writeTarget_succ hwf hj).1
  · rw [writeTarget, writeTarget, if_neg (by omega), if_neg (by omega)]

namespace Machine

variable {s t : State} {n : Nat}

/-! ### The lines served -/

/-- The ADV of the last event is to come: the event is flagged, or pending, or served up to its ADV. -/
def State.awaitsAdv (s : State) : Prop :=
  s.evtFlag = true ∨ s.pending = true ∨ ∃ p : LineProgram, p.UpToAdv s.seqPc.toNat

theorem atSequencer_pending_of_onSchedule (hs : s.OnSchedule) : s.atSequencer.pending = (s.pending || s.evtFlag) := by
  obtain ⟨-, hie, -⟩ := live_of_onSchedule hs
  rw [atSequencer_pending, hie, Bool.and_true]

/-- Off the idle index the Sequencer awaits an ADV exactly up to it. -/
theorem awaitsAdv_iff_of_busy (hs : s.OnSchedule) (hpc : s.seqPc ≠ idlePc) :
    s.awaitsAdv ↔ ∃ p : LineProgram, p.UpToAdv s.seqPc.toNat := by
  obtain ⟨hpending, hev, -⟩ := due_of_onSchedule hs hpc
  simp [State.awaitsAdv, hpending, hev]

/-- `n` ticks after the first tick from INIT: the block is on schedule, its outputs are those of its index, and its line, its
offset, and the writes of the line so far are those that `n` gives. -/
structure State.Tracks (s : State) (n : Nat) : Prop where
  schedule : s.OnSchedule
  outputs : s.view.Consistent s.cfg
  offset : s.tcnt.toNat = s.cfg.offsetOf n
  awaiting : s.awaitsAdv → 1 ≤ s.cfg.lineOf n ∧ s.place = s.cfg.placeOf (s.cfg.lineOf n)
  served : ¬s.awaitsAdv → s.place = s.cfg.placeOf (s.cfg.lineOf n + 1)
  writesSoFar : ∀ p : LineProgram, p.UpToAdv s.seqPc.toNat →
    ∀ i, p.base + 2 * (i + 1) ≤ s.seqPc.toNat → s.cfg.writeAt i < s.cfg.offsetOf n
  allWrites : ¬s.awaitsAdv → 1 ≤ s.cfg.lineOf n →
    ∀ i, i < (s.cfg.programAt (s.cfg.placeOf (s.cfg.lineOf n))).writes → s.cfg.writeAt i < s.cfg.offsetOf n

theorem tracks_init (hs : s.PoweredOn) (hbudget : s.cfg.lineBudget) (hfirst : s.cfg.activeStart ≤ 255) :
    s.popStrobe.init.endTick.Tracks 0 := by
  obtain ⟨-, hschedule⟩ := init_onSchedule hs hbudget hfirst
  obtain ⟨hwf, -⟩ := hs
  have hpos := (Config.period_mem hwf).1
  have hserved : ¬s.popStrobe.init.endTick.awaitsAdv := by
    rintro (h | h | ⟨p, h⟩)
    · cases h
    · cases h
    · exact p.not_upToAdv_idle h
  have hline : s.cfg.lineOf 0 = 0 := Nat.zero_div _
  refine ⟨hschedule, ⟨fun p h => absurd h p.not_upToAdv_idle, ?_, ?_⟩, ?_, fun h => absurd h hserved, fun _ => ?_,
    fun p h => absurd h p.not_upToAdv_idle, fun _ h => ?_⟩
  · exact (s.cfg.colourHeld_of_ge (k := 31) (by decide)).symm
  · rfl
  · exact (Nat.zero_mod _).symm
  · change 0 + (s.cfg.count .frontPorch - (BitVec.ofNat 16 (s.cfg.count .frontPorch)).toNat) = s.cfg.placeOf (s.cfg.lineOf 0 + 1)
    rw [Config.count_toNat hwf, Nat.sub_self, hline]
    exact (Nat.zero_mod _).symm
  · exact absurd (h.trans_eq hline) (by decide)

theorem step_clock (hs : s.OnSchedule) (h : step s = .next t) :
    t.tcnt.toNat = (s.tcnt.toNat + 1) % s.cfg.hFullLineNbTicks ∧ t.evtFlag = decide (t.tcnt = 0) := by
  have hlegal := liveLegal_of_onSchedule hs
  obtain ⟨u, hu, rfl⟩ := sequencer_of_step (inited_of_onSchedule hs) h
  obtain ⟨-, hlive, -⟩ := tickInvariant_liveLegal.sequencer (tickInvariant_liveLegal.atSequencer hlegal) hu
  have hframe := sequencer_frame hu
  have hcfg : u.cfg = s.cfg := hframe.cfg.trans (atSequencer_cfg s)
  have hclock := live_frameClock (hcfg ▸ (inBudget_of_onSchedule hs).wf) hlive
  rwa [hcfg, hframe.tcnt, atSequencer_tcnt] at hclock

/-- What the Frame Clock does to the offset and to the line. -/
theorem clock_cases (hs : s.Tracks n) (h : step s = .next t) :
    t.tcnt.toNat = s.cfg.offsetOf (n + 1) ∧
      ((t.evtFlag = false ∧ s.cfg.lineOf (n + 1) = s.cfg.lineOf n ∧ s.cfg.offsetOf (n + 1) = s.cfg.offsetOf n + 1) ∨
        (t.evtFlag = true ∧ s.cfg.lineOf (n + 1) = s.cfg.lineOf n + 1)) := by
  obtain ⟨htcnt, hflag⟩ := step_clock hs.schedule h
  have hpos := (Config.period_mem (inBudget_of_onSchedule hs.schedule).wf).1
  have hlt : s.cfg.offsetOf n < s.cfg.hFullLineNbTicks := Nat.mod_lt n hpos
  obtain ⟨hwithin, hend⟩ := s.cfg.lineOf_offsetOf_succ n hlt
  rw [hs.offset] at htcnt
  obtain hlt' | heq := (Nat.succ_le_of_lt hlt).lt_or_eq
  · obtain ⟨hline, hoffset⟩ := hwithin hlt'
    have hoff : t.tcnt.toNat = s.cfg.offsetOf (n + 1) := by rw [htcnt, hoffset, Nat.mod_eq_of_lt hlt']
    refine ⟨hoff, .inl ⟨?_, hline, hoffset⟩⟩
    rw [hflag, decide_eq_false_iff_not]
    intro hzero
    rw [hzero, hoffset] at hoff
    exact absurd hoff (Nat.succ_ne_zero _).symm
  · obtain ⟨hline, hoffset⟩ := hend heq
    have hzero : t.tcnt.toNat = 0 := by rw [htcnt, ← Nat.succ_eq_add_one, heq, Nat.mod_self]
    refine ⟨hzero.trans hoffset.symm, .inr ⟨?_, hline⟩⟩
    rw [hflag, decide_eq_true_iff]
    exact BitVec.eq_of_toNat_eq hzero

/-! ### The moves, line by line -/

theorem place_congr (hcfg : t.cfg = s.cfg) (hphase : t.phase = s.phase) (hlines : t.linesRem = s.linesRem) :
    t.place = s.place := by
  rw [State.place, State.place, hcfg, hphase, hlines]

theorem place_of_view {i : RomIndex} {c3 : Colour} {level : Bool} (hcfg : t.cfg = s.cfg)
    (hv : t.view = { s.view with seqPc := i, color := c3, syncC := level }) : t.place = s.place :=
  place_congr hcfg (congrArg View.phase hv) (congrArg View.linesRem hv)

/-- A move, as the line sees it: nothing, the entry of its event, a step before its ADV, its ADV, its RET. -/
inductive State.LineMove (s t : State) : Prop
  | stay (hpc : t.seqPc = s.seqPc) (hpending : t.pending = s.atSequencer.pending) (hplace : t.place = s.place)
  | enter (hawait : s.atSequencer.pending = true) (p : LineProgram) (hpc : t.seqPc.toNat = p.base) (hplace : t.place = s.place)
  | within (p : LineProgram) (hold : p.UpToAdv s.seqPc.toNat) (hnew : p.UpToAdv t.seqPc.toNat) (hplace : t.place = s.place)
  | adv (p : LineProgram) (hk : s.seqPc.toNat = p.base + 2 * p.writes) (hk' : t.seqPc.toNat = p.base + 2 * p.writes + 1)
      (hplace : t.place = s.afterAdv.place)
  | ret (p : LineProgram) (hk : s.seqPc.toNat = p.base + 2 * p.writes + 1) (hpc : t.seqPc = idlePc)
      (hpending : t.pending = s.atSequencer.pending) (hplace : t.place = s.place)

theorem lineMove_of_move (hcfg : t.cfg = s.cfg) (hm : s.Move t) : s.LineMove t := by
  have hwithin {p : LineProgram} (hlo : p.base ≤ s.seqPc.toNat) (hhi : s.seqPc.toNat < p.base + 2 * p.writes)
      (hpc : t.seqPc = s.seqPc + 1) (hplace : t.place = s.place) : s.LineMove t := by
    have hold : p.UpToAdv s.seqPc.toNat := ⟨hlo, hhi.le⟩
    have hnew : p.UpToAdv (s.seqPc + 1).toNat := by
      rw [hold.toNat_succ]
      exact ⟨hlo.trans (Nat.le_succ _), hhi⟩
    exact .within p hold (hpc ▸ hnew) hplace
  cases hm with
  | stay hpending hv => exact .stay (congrArg View.seqPc hv) hpending (place_of_view hcfg hv)
  | enter hidle hawait hv =>
    have hpc : t.seqPc = select s.phase s.linesRem := congrArg View.seqPc hv
    exact .enter hawait _ (hpc ▸ select_toNat s.phase s.linesRem) (place_of_view hcfg hv)
  | wait p j hj hk hv => exact hwithin (p := p) (by omega) (by omega) (congrArg View.seqPc hv) (place_of_view hcfg hv)
  | setc j hj hk hop hv =>
    refine hwithin (p := .active) ?_ ?_ (congrArg View.seqPc hv) (place_of_view hcfg hv) <;>
      simp only [LineProgram.base, LineProgram.writes] <;> omega
  | tgls hk hop hv =>
    refine hwithin (p := .edge) ?_ ?_ (congrArg View.seqPc hv) (place_of_view hcfg hv) <;> rw [hk] <;> decide
  | adv p hk hv =>
    have hpc : t.seqPc = s.seqPc + 1 := congrArg View.seqPc hv
    have hold : p.UpToAdv s.seqPc.toNat := ⟨by omega, hk.le⟩
    refine .adv p hk (by rw [hpc, hold.toNat_succ, hk]) ?_
    exact place_congr (hcfg.trans (afterAdv_cfg s).symm) (congrArg View.phase hv) (congrArg View.linesRem hv)
  | ret p hk hpending hv => exact .ret p hk (congrArg View.seqPc hv) hpending (place_of_view hcfg hv)

theorem ne_idlePc_of_toNat {i : RomIndex} {k : Nat} (hi : i.toNat = k) (hk : k ≠ 31) : i ≠ idlePc := by
  rintro rfl
  exact hk hi.symm

theorem not_awaitsAdv_of_ret (hs : s.OnSchedule) {p : LineProgram} (hk : s.seqPc.toNat = p.base + 2 * p.writes + 1) :
    ¬s.awaitsAdv := by
  rw [awaitsAdv_iff_of_busy hs (ne_idlePc_of_toNat hk p.ret_ne_idle), hk]
  rintro ⟨q, hq⟩
  exact p.not_upToAdv_ret q hq

/-- At the end of a line its event is served (T3 to T5). -/
theorem served_of_event (hs : s.OnSchedule) (ht : t.OnSchedule) (hm : s.LineMove t) (hev : t.evtFlag = true) :
    ¬s.awaitsAdv ∧ t.place = s.place := by
  obtain ⟨hidle, -, hnone⟩ := idle_of_event ht hev
  cases hm with
  | stay hpc hpending hplace =>
    rw [hpending, atSequencer_pending_of_onSchedule hs, Bool.or_eq_false_iff] at hnone
    refine ⟨?_, hplace⟩
    rintro (h | h | ⟨p, h⟩)
    · simp [hnone] at h
    · simp [hnone] at h
    · rw [← hpc, hidle] at h
      exact p.not_upToAdv_idle h
  | enter hawait p hpc hplace =>
    have hbase : p.UpToAdv t.seqPc.toNat := by
      rw [hpc]
      exact p.upToAdv_base
    rw [hidle] at hbase
    exact absurd hbase p.not_upToAdv_idle
  | within p hold hnew hplace =>
    rw [hidle] at hnew
    exact absurd hnew p.not_upToAdv_idle
  | adv p hk hk' hplace =>
    rw [hidle] at hk'
    exact absurd hk'.symm p.ret_ne_idle
  | ret p hk hpc hpending hplace => exact ⟨not_awaitsAdv_of_ret hs hk, hplace⟩

/-- Within a line the place is kept, but for the ADV that the line awaits. -/
theorem awaitsAdv_of_lineMove (hs : s.OnSchedule) (ht : t.OnSchedule) (hm : s.LineMove t) (hev : t.evtFlag = false) :
    ((t.awaitsAdv ↔ s.awaitsAdv) ∧ t.place = s.place) ∨
      ((∃ p : LineProgram, s.seqPc.toNat = p.base + 2 * p.writes) ∧ ¬t.awaitsAdv ∧
        t.place = (s.place + 1) % s.cfg.vFullLines) := by
  cases hm with
  | stay hpc hpending hplace =>
    rw [atSequencer_pending_of_onSchedule hs] at hpending
    refine .inl ⟨?_, hplace⟩
    simp only [State.awaitsAdv, hpc, hpending, hev, Bool.or_eq_true]
    tauto
  | enter hawait p hpc hplace =>
    rw [atSequencer_pending_of_onSchedule hs, Bool.or_eq_true] at hawait
    refine .inl ⟨iff_of_true (.inr (.inr ⟨p, hpc ▸ p.upToAdv_base⟩)) ?_, hplace⟩
    exact hawait.elim (fun h => .inr (.inl h)) .inl
  | within p hold hnew hplace => exact .inl ⟨iff_of_true (.inr (.inr ⟨p, hnew⟩)) (.inr (.inr ⟨p, hold⟩)), hplace⟩
  | adv p hk hk' hplace =>
    exact .inr ⟨⟨p, hk⟩, not_awaitsAdv_of_ret ht hk', hplace.trans (countsLines_of_onSchedule hs).place_afterAdv⟩
  | ret p hk hpc hpending hplace =>
    obtain ⟨hnone, hnoev, -⟩ := due_of_onSchedule hs (ne_idlePc_of_toNat hk p.ret_ne_idle)
    rw [atSequencer_pending_of_onSchedule hs, hnone, hnoev] at hpending
    refine .inl ⟨iff_of_false ?_ (not_awaitsAdv_of_ret hs hk), hplace⟩
    rintro (h | h | ⟨q, h⟩)
    · simp [hev] at h
    · simp [hpending] at h
    · rw [hpc] at h
      exact q.not_upToAdv_idle h

/-- A write issues at its WAIT's exit (R80, R91), so that it is over at the next offset. -/
theorem writeAt_eq_offset (hs : s.Tracks n) {p : LineProgram} {j : Nat} (hj : j < p.writes)
    (hk : s.seqPc.toNat = p.base + 2 * j + 1) (hop : s.opcnt = 0) : s.cfg.writeAt j = s.cfg.offsetOf n := by
  have hne : s.seqPc ≠ idlePc := ne_idlePc_of_toNat hk (by cases p <;> simp only [LineProgram.base, LineProgram.writes] at hj ⊢ <;> omega)
  obtain ⟨-, -, hdue⟩ := due_of_onSchedule hs.schedule hne
  rw [hop, Nat.add_zero, hs.offset] at hdue
  exact ((Config.due_write hj hk).mp hdue).symm

theorem writesSoFar_of_move (hs : s.Tracks n) (hm : s.Move t) (p : LineProgram) (hp : p.UpToAdv t.seqPc.toNat) (i : Nat)
    (hi : p.base + 2 * (i + 1) ≤ t.seqPc.toNat) : s.cfg.writeAt i < s.cfg.offsetOf n + 1 := by
  have hwrite {q : LineProgram} {j : Nat} (hj : j < q.writes) (hk : s.seqPc.toNat = q.base + 2 * j + 1) (hop : s.opcnt = 0)
      (hpc : t.seqPc = s.seqPc + 1) : s.cfg.writeAt i < s.cfg.offsetOf n + 1 := by
    have hold : q.UpToAdv s.seqPc.toNat := ⟨by omega, by omega⟩
    have hnew : q.UpToAdv t.seqPc.toNat := by
      rw [hpc, hold.toNat_succ]
      exact ⟨by omega, by omega⟩
    cases hp.unique hnew
    rw [hpc, hold.toNat_succ] at hi
    obtain hij | rfl : i < j ∨ i = j := by omega
    · exact Nat.lt_succ_of_lt (hs.writesSoFar p hold i (by omega))
    · exact Nat.lt_succ_of_le (writeAt_eq_offset hs hj hk hop).le
  cases hm with
  | stay hpending hv =>
    have hpc : t.seqPc = s.seqPc := congrArg View.seqPc hv
    rw [hpc] at hp hi
    exact Nat.lt_succ_of_lt (hs.writesSoFar p hp i hi)
  | enter hidle hawait hv =>
    have hpc : t.seqPc = select s.phase s.linesRem := congrArg View.seqPc hv
    rw [hpc, select_toNat] at hp hi
    cases hp.unique (LineProgram.upToAdv_base _)
    omega
  | wait q j hj hk hv =>
    have hpc : t.seqPc = s.seqPc + 1 := congrArg View.seqPc hv
    have hold : q.UpToAdv s.seqPc.toNat := ⟨by omega, by omega⟩
    have hnew : q.UpToAdv t.seqPc.toNat := by
      rw [hpc, hold.toNat_succ]
      exact ⟨by omega, by omega⟩
    cases hp.unique hnew
    rw [hpc, hold.toNat_succ] at hi
    exact Nat.lt_succ_of_lt (hs.writesSoFar p hold i (by omega))
  | setc j hj hk hop hv => exact hwrite (q := .active) hj hk hop (congrArg View.seqPc hv)
  | tgls hk hop hv => exact hwrite (q := .edge) (j := 0) Nat.one_pos hk hop (congrArg View.seqPc hv)
  | adv q hk hv =>
    have hpc : t.seqPc = s.seqPc + 1 := congrArg View.seqPc hv
    have hold : q.UpToAdv s.seqPc.toNat := ⟨by omega, hk.le⟩
    rw [hpc, hold.toNat_succ, hk] at hp
    exact absurd hp (q.not_upToAdv_ret p)
  | ret q hk hpending hv =>
    have hpc : t.seqPc = idlePc := congrArg View.seqPc hv
    rw [hpc] at hp
    exact absurd hp p.not_upToAdv_idle

/-- Up to its ADV the Sequencer runs the program of the line's place. -/
theorem programAt_of_upToAdv (hs : s.Tracks n) {p : LineProgram} (hp : p.UpToAdv s.seqPc.toNat) :
    s.cfg.programAt (s.cfg.placeOf (s.cfg.lineOf n)) = p := by
  obtain ⟨-, hplace⟩ := hs.awaiting (.inr (.inr ⟨p, hp⟩))
  rw [← hplace, (countsLines_of_onSchedule hs.schedule).programAt_place]
  exact hs.outputs.program p hp

theorem tracks_step (hs : s.Tracks n) (h : step s = .next t) : t.Tracks (n + 1) := by
  have hc := inBudget_of_onSchedule hs.schedule
  have hm := move_of_step (onProgram_of_onSchedule hs.schedule) (inited_of_onSchedule hs.schedule) h
  have hcfg := step_cfg h
  have hline := lineMove_of_move hcfg hm
  have ht := step_onSchedule hs.schedule h
  obtain ⟨hoffset, ⟨hev, hk, ho⟩ | ⟨hev, hk⟩⟩ := clock_cases hs h
  · have hlines := awaitsAdv_of_lineMove hs.schedule ht hline hev
    refine ⟨ht, hcfg ▸ consistent_of_move hc.wf hs.outputs hm, hcfg ▸ hoffset, ?_, ?_, ?_, ?_⟩ <;> rw [hcfg]
    · intro hawait
      obtain ⟨hiff, hplace⟩ | ⟨-, hnot, -⟩ := hlines
      · rw [hk, hplace]
        exact hs.awaiting (hiff.mp hawait)
      · exact absurd hawait hnot
    · intro hserved
      rw [hk]
      obtain ⟨hiff, hplace⟩ | ⟨⟨p, hpc⟩, -, hplace⟩ := hlines
      · exact hplace.trans (hs.served (mt hiff.mpr hserved))
      · obtain ⟨hpos, hplace'⟩ := hs.awaiting (.inr (.inr ⟨p, by omega, hpc.le⟩))
        rw [hplace, hplace', Config.placeOf_succ _ hpos]
    · rw [ho]
      exact writesSoFar_of_move hs hm
    · intro hserved hpos i hi
      rw [hk] at hpos hi
      rw [ho]
      obtain ⟨hiff, -⟩ | ⟨⟨p, hpc⟩, -, -⟩ := hlines
      · exact Nat.lt_succ_of_lt (hs.allWrites (mt hiff.mpr hserved) hpos i hi)
      · have hp : p.UpToAdv s.seqPc.toNat := ⟨by omega, hpc.le⟩
        rw [programAt_of_upToAdv hs hp] at hi
        exact Nat.lt_succ_of_lt (hs.writesSoFar p hp i (by omega))
  · obtain ⟨hserved, hplace⟩ := served_of_event hs.schedule ht hline hev
    obtain ⟨hidle, -⟩ := idle_of_event ht hev
    have hawait : t.awaitsAdv := .inl hev
    refine ⟨ht, hcfg ▸ consistent_of_move hc.wf hs.outputs hm, hcfg ▸ hoffset, fun _ => ?_, fun hnot => absurd hawait hnot,
      fun p hp => ?_, fun hnot => absurd hawait hnot⟩
    · rw [hcfg, hk, hplace]
      exact ⟨Nat.le_add_left _ _, hs.served hserved⟩
    · rw [hidle] at hp
      exact absurd hp p.not_upToAdv_idle

theorem tracks_ticks (hs : s.PoweredOn) (hbudget : s.cfg.lineBudget) (hfirst : s.cfg.activeStart ≤ 255) (n : Nat) :
    ∃ t, ticks (n + 1) s = .next t ∧ t.Tracks n := by
  induction n with
  | zero =>
    obtain ⟨hstep, -⟩ := init_onSchedule hs hbudget hfirst
    exact ⟨_, ticks_succ 0 hstep, tracks_init hs hbudget hfirst⟩
  | succ n ih =>
    obtain ⟨t, ht, htracks⟩ := ih
    obtain ⟨u, hu⟩ := step_total (inBudget_of_onSchedule htracks.schedule).wf
    exact ⟨u, (ticks_append (n + 1) 1 ht).trans (ticks_succ 0 hu), tracks_step htracks hu⟩

end Machine
end Sys2Proof
end

/-! Proofs: what the outputs and the pins show at every tick (43_signal_driver.md R101, R102, R104, R108, R109;
70_reset_and_hazards.md R149). -/
section
namespace Sys2Proof.Machine

variable {s t : State} {n : Nat}

/-! ### The writes of a line that are over -/

/-- An event waits for its entry at most `ENTRY_MAX` ticks (R120). -/
theorem tcnt_le_entry (hs : s.OnSchedule) (hpc : s.seqPc = idlePc) (hawait : s.awaitsAdv) : s.tcnt.toNat ≤ s.cfg.entry.hi := by
  obtain ⟨-, -, -, -, -, -, hflag⟩ := live_of_onSchedule hs
  obtain hev | hpending | ⟨p, hp⟩ := hawait
  · rw [hflag hev]
    exact Nat.zero_le _
  · obtain ⟨-, -, hno⟩ | ⟨-, -, -, -, hentry⟩ | ⟨-, hno, -⟩ := sequencer_of_onSchedule hs
    · simp [hpending] at hno
    · exact (Nat.le_add_right _ _).trans hentry
    · simp [hpending] at hno
  · rw [hpc] at hp
    exact absurd hp p.not_upToAdv_idle

/-- Up to its next write, a line program is in time for it. -/
theorem tcnt_le_writeAt (hs : s.OnSchedule) {p : LineProgram} (hp : p.UpToAdv s.seqPc.toNat)
    (hj : (s.seqPc.toNat - p.base) / 2 < p.writes) : s.tcnt.toNat ≤ s.cfg.writeAt ((s.seqPc.toNat - p.base) / 2) := by
  have hne : s.seqPc ≠ idlePc := by
    intro hidle
    rw [hidle] at hp
    exact p.not_upToAdv_idle hp
  obtain ⟨-, -, hdue⟩ := due_of_onSchedule hs hne
  generalize hj' : (s.seqPc.toNat - p.base) / 2 = j at *
  obtain ⟨hlo, hhi⟩ := hp
  obtain hk | hk : s.seqPc.toNat = p.base + 2 * j ∨ s.seqPc.toNat = p.base + 2 * j + 1 := by omega
  · have hdone := ((Config.due_after_writes hj.le hk).mp hdue).1
    have htarget := (inBudget_of_onSchedule hs).doneBy_le_target hj
    rw [Config.writeAt]
    omega
  · rw [Config.due_write hj hk] at hdue
    omega

theorem writesOver_of_le {p : LineProgram} {o j : Nat} (hwf : s.cfg.wellFormed = true)
    (hover : ∀ i, i < j → s.cfg.writeAt i < o) (hnext : j < p.writes → o ≤ s.cfg.writeAt j) : s.cfg.WritesOver p o j :=
  ⟨hover, fun _ hji hi => (hnext (hji.trans_lt hi)).trans (Config.writeAt_mono hwf hji)⟩

/-- Where the Sequencer is at offset `o` of the line at place `m`: before its line program, in it up to the ADV, after the ADV. -/
inductive State.LinePosition (s : State) (m o : Nat) : Prop
  | before (hplace : s.place = m) (hpc : s.seqPc = idlePc) (hw : s.cfg.WritesOver (s.cfg.programAt m) o 0)
  | inside (hplace : s.place = m) (hp : (s.cfg.programAt m).UpToAdv s.seqPc.toNat)
      (hw : s.cfg.WritesOver (s.cfg.programAt m) o ((s.seqPc.toNat - (s.cfg.programAt m).base) / 2))
  | after (hplace : s.place = (m + 1) % s.cfg.vFullLines) (hpc : ∀ p : LineProgram, ¬p.UpToAdv s.seqPc.toNat)
      (hw : s.cfg.WritesOver (s.cfg.programAt m) o (s.cfg.programAt m).writes)

theorem linePosition_of_tracks (hs : s.Tracks n) (hk : 1 ≤ s.cfg.lineOf n) :
    s.LinePosition (s.cfg.placeOf (s.cfg.lineOf n)) (s.cfg.offsetOf n) := by
  have hc := inBudget_of_onSchedule hs.schedule
  by_cases hawait : s.awaitsAdv
  · obtain ⟨-, hplace⟩ := hs.awaiting hawait
    by_cases hrun : ∃ p : LineProgram, p.UpToAdv s.seqPc.toNat
    · obtain ⟨p, hp⟩ := hrun
      have hof := programAt_of_upToAdv hs hp
      have hlo := hp.1
      refine .inside hplace (hof ▸ hp) (writesOver_of_le hc.wf (fun i hi => ?_) fun hj => ?_) <;> rw [hof] at *
      · exact hs.writesSoFar p hp i (by omega)
      · exact hs.offset ▸ tcnt_le_writeAt hs.schedule hp hj
    · have hpc : s.seqPc = idlePc := by
        by_contra hne
        exact hrun ((awaitsAdv_iff_of_busy hs.schedule hne).mp hawait)
      refine .before hplace hpc (writesOver_of_le hc.wf (fun i hi => absurd hi (Nat.not_lt_zero i)) fun hj => ?_)
      have hentry := tcnt_le_entry hs.schedule hpc hawait
      have hfirst := hc.doneBy_le_target hj
      rw [← hs.offset]
      simp only [Config.doneBy, Config.writeAt] at hfirst ⊢
      omega
  · refine .after ?_ (fun p hp => hawait (.inr (.inr ⟨p, hp⟩)))
      (writesOver_of_le hc.wf (hs.allWrites hawait hk) fun h => absurd h (lt_irrefl _))
    rw [hs.served hawait, Config.placeOf_succ _ hk]

/-! ### The outputs (R101, R102) -/

theorem color_of_tracks (hs : s.Tracks n) : s.color = s.cfg.waveColour n := by
  have hcolor : s.color = s.cfg.colourHeld s.seqPc.toNat := hs.outputs.color
  rw [hcolor]
  by_cases hactive : 1 ≤ s.cfg.lineOf n ∧ s.cfg.programAt (s.cfg.placeOf (s.cfg.lineOf n)) = .active
  · obtain ⟨hk, hm⟩ := hactive
    rw [Config.waveColour_of_active hk hm]
    cases linePosition_of_tracks hs hk with
    | before hplace hpc hw =>
      rw [hm] at hw
      rw [Config.activeColour_eq (Nat.zero_le _) hw, hpc]
      exact Config.colourHeld_of_not_active _ (LineProgram.not_upToAdv_idle _)
    | inside hplace hp hw =>
      rw [hm] at hp hw
      rw [Config.activeColour_eq (Nat.div_le_of_le_mul (Nat.sub_le_of_le_add hp.2)) hw]
      exact Config.colourHeld_of_active _ hp
    | after hplace hpc hw =>
      rw [hm] at hw
      rw [Config.activeColour_eq le_rfl hw, Config.colourHeld_of_not_active _ (hpc .active)]
      exact (s.cfg.colourHeld_of_ge (by decide)).symm
  · rw [Config.waveColour_of_not_active (fun hk hm => hactive ⟨hk, hm⟩)]
    refine Config.colourHeld_of_not_active _ fun hp => hactive ⟨?_, programAt_of_upToAdv hs hp⟩
    exact (hs.awaiting (.inr (.inr ⟨_, hp⟩))).1

/-- On line 0, which has no handler, `SYNC_C` is at its idle level (R114). -/
theorem syncC_of_tracks_line_zero (hs : s.Tracks n) (hk : s.cfg.lineOf n = 0) : s.syncC = s.cfg.syncIdleLevel := by
  have hsync : s.syncC = s.cfg.syncLevel (decide (s.phase = .syncPulse) ^^ decide (s.seqPc.toNat = 23)) := hs.outputs.sync
  have hserved : ¬s.awaitsAdv := fun h => absurd (hk ▸ (hs.awaiting h).1) (by decide)
  have hcounts := countsLines_of_onSchedule hs.schedule
  have hplace : s.place = 0 := by
    rw [hs.served hserved, hk]
    exact Nat.zero_mod _
  have hphase : ¬s.phase = .syncPulse := by
    have hfp : 1 ≤ s.cfg.vFpLines := (Config.count_mem hcounts.wf .frontPorch).1
    rw [← hcounts.phaseAt_place, hplace, Config.phaseAt_eq_syncPulse_iff]
    omega
  have hpc : ¬s.seqPc.toNat = 23 := fun h => hserved (.inr (.inr ⟨.edge, h ▸ LineProgram.upToAdv_edge_last⟩))
  rw [hsync, decide_eq_false hphase, decide_eq_false hpc]
  rfl

/-- On every later line the phase, with `P_EDGE`'s toggle before its ADV, is that of the waveform. -/
theorem syncPulse_of_linePosition {m o : Nat} (hcounts : s.CountsLines) (hm : m < s.cfg.vFullLines) (h : s.LinePosition m o) :
    (decide (s.phase = .syncPulse) ^^ decide (s.seqPc.toNat = 23)) =
      decide (s.cfg.phaseAt (if s.cfg.writeAt 0 < o then m + 1 else m) = .syncPulse) := by
  rw [← hcounts.phaseAt_place]
  by_cases hedge : s.cfg.programAt m = .edge
  · have hflip := Config.syncPulse_succ_of_edge hcounts.wf hedge
    cases h with
    | before hplace hpc hw =>
      rw [hedge] at hw
      rw [if_neg (hw.2 0 le_rfl Nat.one_pos).not_gt, hplace, hpc]
      exact Bool.xor_false _
    | inside hplace hp hw =>
      rw [hedge] at hp hw
      obtain ⟨hlo, hhi⟩ := hp
      simp only [LineProgram.base, LineProgram.writes] at hlo hhi hw
      obtain hpc | hpc : s.seqPc.toNat = 23 ∨ (s.seqPc.toNat - 21) / 2 = 0 := by omega
      · have htoggled : s.cfg.writeAt 0 < o := hw.1 0 (by omega)
        rw [if_pos htoggled, hplace, decide_eq_true hpc, Bool.xor_true, ← decide_not]
        exact decide_eq_decide.mpr (Config.syncPulse_succ_of_edge hcounts.wf hedge).symm
      · rw [hpc] at hw
        have hne : ¬s.seqPc.toNat = 23 := by omega
        rw [if_neg (hw.2 0 le_rfl Nat.one_pos).not_gt, hplace, decide_eq_false hne, Bool.xor_false]
    | after hplace hpc hw =>
      rw [hedge] at hw
      have hne : ¬s.seqPc.toNat = 23 := fun h => hpc .edge (h ▸ LineProgram.upToAdv_edge_last)
      rw [if_pos (hw.1 0 Nat.one_pos), hplace, decide_eq_false hne, Bool.xor_false]
      exact decide_eq_decide.mpr (Config.syncPulse_mod hcounts.wf hm)
  · have hsame := Config.syncPulse_succ_of_ne_edge rfl hedge
    have hif : s.cfg.phaseAt (if s.cfg.writeAt 0 < o then m + 1 else m) = .syncPulse ↔ s.cfg.phaseAt m = .syncPulse := by
      split
      · exact hsame
      · rfl
    have hne : ¬s.seqPc.toNat = 23 := by
      intro h23
      have hlast : LineProgram.edge.UpToAdv s.seqPc.toNat := h23 ▸ LineProgram.upToAdv_edge_last
      cases h with
      | before hplace hpc hw => exact LineProgram.not_upToAdv_idle _ (hpc ▸ hlast)
      | inside hplace hp hw => exact hedge (hp.unique hlast)
      | after hplace hpc hw => exact hpc _ hlast
    rw [decide_eq_false hne, Bool.xor_false]
    refine decide_eq_decide.mpr (.trans ?_ hif.symm)
    cases h with
    | before hplace hpc hw => rw [hplace]
    | inside hplace hp hw => rw [hplace]
    | after hplace hpc hw => rw [hplace, Config.syncPulse_mod hcounts.wf hm, hsame]

theorem syncC_of_tracks (hs : s.Tracks n) : s.syncC = s.cfg.waveSync n := by
  have hcounts := countsLines_of_onSchedule hs.schedule
  obtain hk | hk := Nat.eq_zero_or_pos (s.cfg.lineOf n)
  · rw [syncC_of_tracks_line_zero hs hk, Config.waveSync_line_zero hk]
  · have hsync : s.syncC = s.cfg.syncLevel (decide (s.phase = .syncPulse) ^^ decide (s.seqPc.toNat = 23)) := hs.outputs.sync
    have hm : s.cfg.placeOf (s.cfg.lineOf n) < s.cfg.vFullLines :=
      Nat.mod_lt _ ((Nat.zero_le _).trans_lt hcounts.fieldLine_lt)
    rw [Config.waveSync_eq hcounts.wf hk rfl, hsync, syncPulse_of_linePosition hcounts hm (linePosition_of_tracks hs hk)]

/-- Settles O54: the schedule, the outputs of an index and the writes of a line so far, carried from INIT on tick by tick. -/
theorem waveformFromInit : Obligations.WaveformFromInit := by
  intro s n hs hbudget hfirst
  obtain ⟨t, ht, htracks⟩ := tracks_ticks hs hbudget hfirst n
  have hcfg := ticks_cfg ht
  exact ⟨t, ht, hcfg ▸ color_of_tracks htracks, hcfg ▸ syncC_of_tracks htracks⟩

end Sys2Proof.Machine
end

/-! Proofs: what the pins show at every tick (43_signal_driver.md R108, R109; 70_reset_and_hazards.md R149). -/
section
namespace Sys2Proof

/-- The pins `n` ticks after the first tick from INIT: the waveform of their registers, each after its delay, X before it has passed;
and the compare output of the line (R38 to R40, R149). -/
def Config.wavePins (c : Config) (n : Nat) : Machine.Pins where
  rgb := if c.outLatColor ≤ n then some (c.waveColour (n - c.outLatColor)) else none
  vsync := if c.outLatSync ≤ n then some (c.waveSync (n - c.outLatSync)) else none
  hsync :=
    match c.hsyncSource with
    | .timerCompare => some (if c.offsetOf n < c.hSyncTicks then !c.syncIdleLevel else c.syncIdleLevel)
    | .undriven => none

namespace Machine

variable {s t : State} {n : Nat}

/-- A register in a delay line shows its waveform after its delay, and nothing before. -/
theorem delayLine_shows_wave {α : Type} {reg : State → α} {line : State → List α} {lat : Config → Nat}
    (hd : DelayLine reg line lat) (hline : line s.popStrobe.init.endTick = []) {wave : Config → Nat → α}
    (hwave : ∀ (t : State) (k : Nat), t.Tracks k → reg t = wave t.cfg k) (hs : s.PoweredOn) (hbudget : s.cfg.lineBudget)
    (hfirst : s.cfg.activeStart ≤ 255) (ht : ticks (n + 1) s = .next t) :
    (reg t :: line t)[lat t.cfg]? = if lat s.cfg ≤ n then some (wave s.cfg (n - lat s.cfg)) else none := by
  split
  case isTrue hle =>
    obtain ⟨u, hu, htracks⟩ := tracks_ticks hs hbudget hfirst (n - lat s.cfg)
    have hcfg := ticks_cfg hu
    have hwf := (inBudget_of_onSchedule htracks.schedule).wf
    obtain ⟨v, hv, -, hshown⟩ := hd.shows_register hwf (inited_of_onSchedule htracks.schedule)
    have hsum : n - lat s.cfg + 1 + lat u.cfg = n + 1 := by rw [hcfg]; omega
    have htv := (ticks_append _ _ hu).trans hv
    rw [hsum, ht] at htv
    cases htv
    rw [hshown, hwave u _ htracks, hcfg]
  case isFalse hlt =>
    obtain ⟨hwf, -, -, hi, -, -, hhost⟩ := hs
    have hstrobe : s.strobe = true := by rw [State.strobe, hhost]; rfl
    obtain ⟨v, hv, -, hnone⟩ := hd.none_after_init hline hwf hi hstrobe (Nat.lt_of_not_le hlt)
    rw [ht] at hv
    cases hv
    exact hnone

theorem hsync_of_tracks (hs : s.Tracks n) : s.hsync = (s.cfg.wavePins n).hsync := by
  have hi := inited_of_onSchedule hs.schedule
  obtain ⟨harmed, -⟩ := live_of_onSchedule hs.schedule
  obtain ⟨hcompare, hundriven⟩ := hsyncFollowsTheCounter s
  unfold Config.wavePins
  cases hsource : s.cfg.hsyncSource with
  | undriven => exact hundriven hsource
  | timerCompare =>
    obtain ⟨hassert, hidle⟩ := hcompare hsource
    rw [hs.offset] at hassert hidle
    dsimp only
    split
    case isTrue hlt => exact hassert harmed hlt
    case isFalse hge => rw [hidle fun h => hge h.2, if_pos hi]

/-- From INIT on, the pins are a function of the configuration and of the tick alone. -/
theorem pins_ticks (hs : s.PoweredOn) (hbudget : s.cfg.lineBudget) (hfirst : s.cfg.activeStart ≤ 255) (n : Nat) :
    ∃ t, ticks (n + 1) s = .next t ∧ t.observe = t.pins ∧ t.pins = s.cfg.wavePins n := by
  obtain ⟨t, ht, htracks⟩ := tracks_ticks hs hbudget hfirst n
  have hcfg := ticks_cfg ht
  have hi := inited_of_onSchedule htracks.schedule
  have hfaults := faults_of_onSchedule htracks.schedule
  have hrgb : t.rgb = (s.cfg.wavePins n).rgb :=
    (rgb_of_inited hi).trans
      (delayLine_shows_wave delayLine_color rfl (fun _ _ => color_of_tracks) hs hbudget hfirst ht)
  have hvsync : t.vsync = (s.cfg.wavePins n).vsync :=
    (vsync_of_inited hi).trans
      (delayLine_shows_wave delayLine_syncC rfl (fun _ _ => syncC_of_tracks) hs hbudget hfirst ht)
  have hhsync : t.hsync = (s.cfg.wavePins n).hsync := hcfg ▸ hsync_of_tracks htracks
  exact ⟨t, ht, if_pos hfaults, by rw [State.pins, hrgb, hvsync, hhsync]⟩

/-- Settles O55: the pins in closed form, pin by pin. -/
theorem pinWaveformFromInit : Obligations.PinWaveformFromInit := by
  intro s n hs hbudget hfirst
  obtain ⟨t, ht, hobserve, hpins⟩ := pins_ticks hs hbudget hfirst n
  refine ⟨t, ht, hobserve, fun hcolor => ?_, fun hsync => ?_, fun hsource => ?_⟩
  · exact (congrArg Pins.rgb hpins).trans (if_pos hcolor)
  · exact (congrArg Pins.vsync hpins).trans (if_pos hsync)
  · refine (congrArg Pins.hsync hpins).trans ?_
    simp only [Config.wavePins, hsource]

/-- Before INIT every pin is X (R38 to R40, R138). -/
theorem pins_of_not_inited (hi : s.inited = false) (harmed : s.armed = false) : s.pins = ⟨none, none, none⟩ := by
  obtain ⟨-, -, hregisters⟩ := pinsFollowTheirRegisters
  obtain ⟨hrgb, hvsync⟩ := hregisters s hi
  obtain ⟨hcompare, hundriven⟩ := hsyncFollowsTheCounter s
  have hhsync : s.hsync = none := by
    cases hsource : s.cfg.hsyncSource with
    | undriven => exact hundriven hsource
    | timerCompare =>
      obtain ⟨-, hidle⟩ := hcompare hsource
      simpa [hi, harmed] using hidle
  rw [State.pins, hrgb, hvsync, hhsync]

theorem observe_poweredOn (hs : s.PoweredOn) : s.observe = ⟨none, none, none⟩ := by
  obtain ⟨-, -, -, hi, ⟨harmed, -⟩, hfaults, -⟩ := hs
  exact (if_pos hfaults).trans (pins_of_not_inited hi harmed)

/-- Settles O56: before INIT the pins are X, and from INIT on the closed form of O55 names neither the draws nor what stood in the
registers. -/
theorem pinsDoNotDependOnDraws : Obligations.PinsDoNotDependOnDraws := by
  intro s s' n hs hs' hcfg hbudget hfirst
  cases n with
  | zero => exact ⟨s, s', rfl, rfl, (observe_poweredOn hs').trans (observe_poweredOn hs).symm⟩
  | succ n =>
    obtain ⟨t, ht, hobserve, hpins⟩ := pins_ticks hs hbudget hfirst n
    obtain ⟨t', ht', hobserve', hpins'⟩ := pins_ticks hs' (hcfg ▸ hbudget) (hcfg ▸ hfirst) n
    exact ⟨t, t', ht, ht', by rw [hobserve, hobserve', hpins, hpins', hcfg]⟩

end Machine
end Sys2Proof
end

/-! Proofs: the faults over a step (60_exceptions.md R110, R111, R118, R119), and that a run has no end (R132). -/
section
namespace Sys2Proof.Machine

variable {s t w : State}

/-- Settles O33: a step answers a state with the same configuration, so the next one does too. -/
theorem aRunHasNoEnd : Obligations.ARunHasNoEnd := fun n _ hwf => ticks_total hwf n

/-! ### What a run keeps of the faults and of their record -/

/-- A micro-op writes the faults and their record by a raise, or not at all (R75, R85). -/
theorem exec_record {i : Instr} (h : exec i s = .next t) :
    (t.faults = s.faults ∧ t.firstRaise = s.firstRaise) ∨
      ∃ f, t.faults = (s.raise f).faults ∧ t.firstRaise = (s.raise f).firstRaise := by
  obtain ⟨r, c, level, pc, n, d, hr, rfl⟩ := exec_cases h
  obtain rfl | rfl | ⟨-, rfl⟩ := hr
  · exact .inl ⟨rfl, rfl⟩
  · exact .inr ⟨_, rfl, rfl⟩
  · obtain ⟨-, h⟩ | ⟨-, -, h⟩ | ⟨-, -, -, h⟩ := advance_cases s <;> rw [h]
    · exact .inr ⟨_, rfl, rfl⟩
    · exact .inl ⟨rfl, rfl⟩
    · exact .inl ⟨rfl, rfl⟩

/-- What is said of `FAULTS` and of the record of the first raise alone is kept by every tick if every raise keeps it. -/
theorem tickInvariant_of_raise {Q : BitVec 8 → Option FirstRaise → Prop}
    (hraise : ∀ (s : State) (f : FaultCode), Q s.faults s.firstRaise → Q (s.raise f).faults (s.raise f).firstRaise) :
    TickInvariant (fun s => Q s.faults s.firstRaise) where
  countEntry _ hw := hw
  countOp _ hw := hw
  enterEvent _ hw := hw
  abandon w hw := hraise w _ hw
  exec _ w _ hw h := by
    obtain ⟨hfaults, hrecord⟩ | ⟨f, hfaults, hrecord⟩ := exec_record h <;> rw [hfaults, hrecord]
    · exact hw
    · exact hraise w f hw
  popStrobe _ hs := hs
  init _ hs := hs
  raise s f _ _ hs := hraise s f hs
  latchPins _ hs := hs
  latchEvent _ _ hs := hs
  frameClock s hs := by rwa [frameClock_faults, frameClock_firstRaise]
  endTick _ hs := hs

theorem tickInvariant_raised (f : FaultCode) : TickInvariant (fun s => s.raised f = true) :=
  tickInvariant_of_raise (Q := fun faults _ => faults.getLsbD f.code = true) fun s g hs => by
    rw [raise_faults, BitVec.getLsbD_or, hs, Bool.true_or]

/-- Settles O37: a raise adds its own bit, and nothing in a step takes one away. -/
theorem faultsAreSticky : Obligations.FaultsAreSticky := by
  refine ⟨fun s f g => ?_, fun s t f h hs => (tickInvariant_raised f).step hs h, fun s hfaults => if_neg hfaults,
    fun s => step_total⟩
  rw [raised_raise, Bool.or_eq_true, decide_eq_true_iff, eq_comm (a := f)]

theorem raise_faults_ne_zero (s : State) (f : FaultCode) : (s.raise f).faults ≠ 0 := by
  intro hzero
  have hbit : (s.raise f).raised f = true := by rw [raised_raise, decide_eq_true rfl, Bool.or_true]
  rw [State.raised, hzero] at hbit
  simp at hbit

/-- After a raise there is a record, and a fault (R110). -/
theorem tickInvariant_recorded : TickInvariant (fun s => s.firstRaise = none ↔ s.faults = 0) :=
  tickInvariant_of_raise (Q := fun faults record => record = none ↔ faults = 0) fun s f _ =>
    iff_of_false (by simp) (raise_faults_ne_zero s f)

/-- A later raise leaves the record of the first one (R110). -/
theorem tickInvariant_firstRaise (r : FirstRaise) : TickInvariant (fun s => s.firstRaise = some r) :=
  tickInvariant_of_raise (Q := fun _ record => record = some r) fun s f hs => by
    rw [raise_firstRaise, hs, Option.some_or]

/-- Settles O49: every raise of a step records itself, unless there is a record, which then stands. -/
theorem firstRaiseRecordsFaults : Obligations.FirstRaiseRecordsFaults := by
  refine fun s t hs h => ⟨tickInvariant_recorded.step hs h, fun hrecord => ?_⟩
  obtain ⟨r, hr⟩ := Option.ne_none_iff_exists'.mp hrecord
  rw [hr]
  exact (tickInvariant_firstRaise r).step hr h

/-! ### What raises a fault of delivery (R118, R119) -/

theorem raised_raiseIf (s : State) (b : Bool) (f g : FaultCode) :
    (if b then s.raise g else s).raised f = (s.raised f || (b && decide (g = f))) := by
  cases b
  · exact (Bool.or_false _).symm
  · exact raised_raise s g f

/-- The faults that the delivery of an event in `s` raises (R118, R119). -/
def State.deliveryRaises (s : State) (f : FaultCode) : Bool :=
  s.evtFlag && s.evtIE && (s.busy && decide (.tvOverrun = f) || s.pending && decide (.tvLostEvent = f))

theorem deliver_raised_eq (s : State) (f : FaultCode) : s.deliver.raised f = (s.raised f || s.deliveryRaises f) := by
  cases hev : s.evtFlag && s.evtIE with
  | false => rw [deliver_none s hev, State.deliveryRaises, hev, Bool.false_and, Bool.or_false]
  | true =>
    have hpending : (if s.busy then s.raise .tvOverrun else s).pending = s.pending := by split <;> rfl
    rw [State.deliveryRaises, hev, Bool.true_and, State.deliver, if_pos hev]
    refine (raised_raiseIf _ _ f .tvLostEvent).trans ?_
    rw [raised_raiseIf, hpending, Bool.or_assoc]

/-- The Sequencer raises only a missed WAIT's fault, an `Illegal` word's, and ADV's ghost (R65, R78, R85). -/
theorem sequencer_raised {f : FaultCode} (hmissed : f ≠ .tvWaitMissed) (hillegal : f ≠ .illegalOp) (hinv : f ≠ .invariant)
    (h : sequencer w = .next t) : t.raised f = w.raised f :=
  SequencerInvariant.sequencer (P := fun u => u.raised f = w.raised f)
    { countEntry := fun _ hu => hu
      countOp := fun _ hu => hu
      enterEvent := fun _ hu => hu
      abandon := fun u hu => (raised_raise_of_ne u hillegal.symm).trans hu
      exec := fun _ _ _ hu hexec => (exec_raised hexec hmissed hinv).trans hu } rfl h

/-- Over a tick of the running block, a fault of delivery is raised by the event's delivery alone. -/
theorem step_raised_delivery {f : FaultCode} (hf : f = .tvOverrun ∨ f = .tvLostEvent) (hi : s.inited = true)
    (h : step s = .next t) : t.raised f = (s.raised f || s.deliveryRaises f) := by
  obtain ⟨u, hu, rfl⟩ := sequencer_of_step hi h
  have hne : f ≠ .tvWaitMissed ∧ f ≠ .illegalOp ∧ f ≠ .invariant ∧ f ≠ .peReinit := by
    obtain rfl | rfl := hf <;> decide
  obtain ⟨hmissed, hillegal, hinv, hreinit⟩ := hne
  calc u.afterSequencer.raised f = u.raised f := by
        rw [State.raised, State.afterSequencer, endTick_faults, frameClock_faults, State.raised]
    _ = s.atSequencer.raised f := sequencer_raised hmissed hillegal hinv hu
    _ = (s.raised f || s.deliveryRaises f) := by
        unfold State.atSequencer
        rw [deliver_raised_eq]
        split
        · exact congrArg (· || _) (raised_raise_of_ne s hreinit.symm)
        · rfl

/-- A step that raises a fault of delivery is a tick of the running block, and delivers an event. -/
theorem deliveryRaises_of_step {f : FaultCode} (hf : f = .tvOverrun ∨ f = .tvLostEvent) (h : step s = .next t)
    (ht : t.raised f = true) (hs : s.raised f = false) : s.inited = true ∧ s.deliveryRaises f = true := by
  obtain ⟨-, ⟨-, -, rfl⟩ | ⟨-, -, rfl⟩ | ⟨hi, -⟩⟩ := step_cases h
  · exact absurd (hs.symm.trans ht) nofun
  · exact absurd (hs.symm.trans ht) nofun
  · rw [step_raised_delivery hf hi h, hs, Bool.false_or] at ht
    exact ⟨hi, ht⟩

/-- Settles O29: what delivery raises names its own cause. -/
theorem deliveryFaultsNeedTheirCause : Obligations.DeliveryFaultsNeedTheirCause := by
  refine fun s t h => ⟨fun ht hs => ?_, fun ht hs => ?_⟩
  · obtain ⟨hi, hcause⟩ := deliveryRaises_of_step (.inl rfl) h ht hs
    simpa [State.deliveryRaises, hi, and_assoc] using hcause
  · obtain ⟨hi, hcause⟩ := deliveryRaises_of_step (.inr rfl) h ht hs
    simpa [State.deliveryRaises, hi, and_assoc] using hcause

end Sys2Proof.Machine
end

/-! Proofs: the Frame Clock over a step and from INIT on (60_exceptions.md R112 to R114). -/
section
namespace Sys2Proof.Machine

variable {s t : State}

@[simp] theorem atSequencer_evtFlag (s : State) : s.atSequencer.evtFlag = s.evtFlag := by
  unfold State.atSequencer; split <;> simp
@[simp] theorem atSequencer_tau (s : State) : s.atSequencer.tau = s.tau := by unfold State.atSequencer; split <;> simp
@[simp] theorem atSequencer_tauInit (s : State) : s.atSequencer.tauInit = s.tauInit := by
  unfold State.atSequencer; split <;> simp

theorem State.Counting.step_evtFlag (hs : s.Counting) (h : step s = .next t) : t.evtFlag = decide (t.tcnt = 0) := by
  obtain ⟨u, hu, rfl⟩ := sequencer_of_step hs.inited h
  have harmed : u.armed = true := (sequencer_frame hu).armed.trans ((atSequencer_armed s).trans hs.armed)
  obtain ⟨htcnt, hflag⟩ := frameClock_on u harmed
  rw [State.afterSequencer, endTick_evtFlag, endTick_tcnt, hflag, htcnt]

theorem step_unarmed (hi : s.inited = true) (harmed : s.armed = false) (h : step s = .next t) :
    t.tcnt = s.tcnt ∧ t.evtFlag = s.evtFlag := by
  obtain ⟨u, hu, rfl⟩ := sequencer_of_step hi h
  have hkept := sequencer_frame hu
  rw [State.afterSequencer, frameClock_off u (hkept.armed.trans ((atSequencer_armed s).trans harmed))]
  exact ⟨hkept.tcnt.trans (atSequencer_tcnt s), hkept.evtFlag.trans (atSequencer_evtFlag s)⟩

/-- Settles O27: the Sequencer leaves the clock's registers to the Frame Clock, and before INIT only INIT writes them. -/
theorem frameClockCounts : Obligations.FrameClockCounts := by
  refine fun s t h => ⟨fun hi harmed hperiod => ?_, fun harmed hnoInit => ?_⟩
  · have hs : s.Counting := ⟨hi, harmed, hperiod⟩
    exact ⟨(hs.step_tcnt h).2.2, hs.step_evtFlag h⟩
  · obtain ⟨-, ⟨hstrobe, hi, -⟩ | ⟨-, -, rfl⟩ | ⟨hi, -⟩⟩ := step_cases h
    · exact absurd ⟨hi, hstrobe⟩ hnoInit
    · exact ⟨rfl, rfl⟩
    · exact step_unarmed hi harmed h

theorem step_tau (hi : s.inited = true) (h : step s = .next t) : t.tau = s.tau + 1 ∧ t.tauInit = s.tauInit := by
  obtain ⟨u, hu, rfl⟩ := sequencer_of_step hi h
  have hkept := sequencer_frame hu
  rw [State.afterSequencer, endTick_tau, endTick_tauInit, frameClock_tau, frameClock_tauInit, hkept.tau, hkept.tauInit,
    atSequencer_tau, atSequencer_tauInit]
  exact ⟨rfl, rfl⟩

/-! ### The ticks since INIT (R113, R114) -/

/-- The clock of the block `n` ticks after the first tick from an INIT at tick `τ`. -/
structure State.ClockSinceInit (τ n : Nat) (s : State) : Prop where
  wf : s.cfg.wellFormed = true
  counting : s.Counting
  period : s.period.toNat = s.cfg.hFullLineNbTicks
  tcnt : s.tcnt.toNat = n % s.cfg.hFullLineNbTicks
  evtFlag : s.evtFlag = decide (n % s.cfg.hFullLineNbTicks = 0 ∧ n ≠ 0)
  tauInit : s.tauInit = some τ
  tau : s.tau = τ + 1 + n

/-- INIT arms the clock at 0, with no event (R113, R136). -/
theorem clockSinceInit_init (hwf : s.cfg.wellFormed = true) : s.popStrobe.init.endTick.ClockSinceInit s.tau 0 := by
  obtain ⟨hpos, hfit⟩ := Config.period_mem hwf
  have hperiod : (BitVec.ofNat 16 s.cfg.hFullLineNbTicks).toNat = s.cfg.hFullLineNbTicks := Nat.mod_eq_of_lt hfit
  refine ⟨hwf, ⟨rfl, rfl, fun hzero => ?_⟩, hperiod, (Nat.zero_mod _).symm, by simp, rfl, rfl⟩
  change BitVec.ofNat 16 s.cfg.hFullLineNbTicks = 0 at hzero
  rw [hzero] at hperiod
  exact absurd hperiod (Nat.ne_of_lt hpos)

theorem State.ClockSinceInit.step {τ n : Nat} (hs : s.ClockSinceInit τ n) (h : step s = .next t) :
    t.ClockSinceInit τ (n + 1) := by
  have hcfg := step_cfg h
  obtain ⟨hperiod, hcounting, htcnt⟩ := hs.counting.step_tcnt h
  obtain ⟨htau, htauInit⟩ := step_tau hs.counting.inited h
  have htcnt' : t.tcnt.toNat = (n + 1) % t.cfg.hFullLineNbTicks := by
    rw [htcnt, hs.tcnt, hs.period, hcfg, Nat.mod_add_mod]
  refine ⟨hcfg ▸ hs.wf, hcounting, by rw [hperiod, hcfg, hs.period], htcnt', ?_, htauInit.trans hs.tauInit,
    by rw [htau, hs.tau, Nat.add_assoc _ n]⟩
  rw [hs.counting.step_evtFlag h, ← htcnt', decide_eq_decide, and_iff_left (Nat.succ_ne_zero n)]
  exact BitVec.toNat_inj.symm

theorem clockSinceInit_ticks (hwf : s.cfg.wellFormed = true) (hi : s.inited = false) (hstrobe : s.strobe = true) (n : Nat) :
    ∃ t, ticks (n + 1) s = .next t ∧ t.ClockSinceInit s.tau n := by
  induction n with
  | zero => exact ⟨_, ticks_succ 0 (step_init hwf hi hstrobe), clockSinceInit_init hwf⟩
  | succ n ih =>
    obtain ⟨t, ht, hclock⟩ := ih
    obtain ⟨u, hu⟩ := step_total hclock.wf
    exact ⟨u, (ticks_append (n + 1) 1 ht).trans (ticks_succ 0 hu), hclock.step hu⟩

/-- Settles O50: the clock since INIT, tick by tick. -/
theorem counterAndEventsFromInit : Obligations.CounterAndEventsFromInit := by
  intro s n hwf hi hstrobe
  obtain ⟨t, ht, hclock⟩ := clockSinceInit_ticks hwf hi hstrobe n
  have hcfg := ticks_cfg ht
  exact ⟨t, ht, hcfg ▸ hclock.tcnt, hcfg ▸ hclock.evtFlag, hclock.tauInit, hclock.tau⟩

end Sys2Proof.Machine
end

/-! Proofs: event delivery and entry (60_exceptions.md R117 to R120). -/
section
namespace Sys2Proof.Machine

variable {s t w : State}

theorem issuing_none_of_idle (hi : s.inited = true) (hbusy : s.atSequencer.busy = false)
    (henters : ¬s.atSequencer.enters = true) : s.issuing = none :=
  (issuing_none_iff hi).mpr ⟨Bool.eq_false_iff.mpr henters, fun ⟨hruns, _⟩ => by simp [hbusy] at hruns⟩

/-- Settles O30: the four conditions are `State.enters`; an idle Sequencer that enters no event issues nothing. -/
theorem eventEntry : Obligations.EventEntry := by
  refine fun s hi => ⟨fun hall => issuing_of_enters hi ((enters_iff _).mpr hall), fun ⟨hbusy, hmissing⟩ => ?_⟩
  refine issuing_none_of_idle hi hbusy fun henters => ?_
  obtain ⟨-, hpending, hgie, hentry⟩ := (enters_iff _).mp henters
  rw [hpending, hgie, hentry] at hmissing
  simp at hmissing

/-! ### The latency (R117) -/

theorem deliver_entrycnt_mem (hev : (s.evtFlag && s.evtIE) = true) :
    s.cfg.entry.lo ≤ s.deliver.entrycnt.toNat ∧ s.deliver.entrycnt.toNat ≤ s.cfg.entry.hi := by
  obtain ⟨-, hentry, -⟩ := deliver_event s hev
  obtain ⟨hlo, hhi⟩ := drawn_mem s s.cfg.entry.lo s.cfg.entry.hi s.cfg.entry.ordered
  rw [hentry, BitVec.toNat_ofNat, Nat.mod_eq_of_lt (hhi.trans_lt s.cfg.entry.fits)]
  exact ⟨hlo, hhi⟩

/-- The latency that the delivery of an event leaves in `ENTRYCNT` is one of its range. -/
theorem atSequencer_entrycnt_mem (hev : (s.evtFlag && s.evtIE) = true) :
    s.cfg.entry.lo ≤ s.atSequencer.entrycnt.toNat ∧ s.atSequencer.entrycnt.toNat ≤ s.cfg.entry.hi := by
  unfold State.atSequencer
  split
  · exact deliver_entrycnt_mem (s := (s.popStrobe.raise .peReinit).latchPins) hev
  · exact deliver_entrycnt_mem (s := s.popStrobe.latchPins) hev

theorem atSequencer_entrycnt_of_no_event (hev : (s.evtFlag && s.evtIE) = false) : s.atSequencer.entrycnt = s.entrycnt := by
  unfold State.atSequencer
  split
  · exact (congrArg State.entrycnt (deliver_none (s.popStrobe.raise .peReinit).latchPins hev)).trans rfl
  · exact (congrArg State.entrycnt (deliver_none s.popStrobe.latchPins hev)).trans rfl

/-! ### The fate of a delivered event in its tick (R117, R120) -/

/-- The event's latch and latency are those of `s`. -/
def State.SameEvent (s t : State) : Prop := t.pending = s.pending ∧ t.entrycnt = s.entrycnt

theorem exec_entrycnt {i : Instr} (h : exec i s = .next t) : t.entrycnt = s.entrycnt := by
  obtain ⟨r, c, level, pc, n, d, hr, rfl⟩ := exec_cases h
  obtain rfl | rfl | ⟨-, rfl⟩ := hr
  · rfl
  · rfl
  · obtain ⟨-, h⟩ | ⟨-, -, h⟩ | ⟨-, -, -, h⟩ := advance_cases s <;> simp only [h, raise_entrycnt]

theorem issue_sameEvent (h : issue w = .next t) : w.SameEvent t := by
  obtain ⟨i, -, hexec⟩ | ⟨e, -, rfl⟩ := issue_cases h
  · exact ⟨exec_pending hexec, exec_entrycnt hexec⟩
  · exact ⟨rfl, rfl⟩

/-- A Sequencer that is busy or has its events masked leaves the event as delivery left it. -/
theorem sequencer_sameEvent (hstay : w.busy = true ∨ w.gie = false) (h : sequencer w = .next t) : w.SameEvent t := by
  obtain ⟨-, -, rfl⟩ | ⟨hbusy, -, hgie, -, -⟩ | ⟨henters, -⟩ | ⟨-, -, rfl⟩ | ⟨-, -, hissue⟩ := sequencer_cases h
  · exact ⟨rfl, rfl⟩
  · simp [hbusy, hgie] at hstay
  · obtain ⟨hbusy, -, hgie, -⟩ := (enters_iff w).mp henters
    simp [hbusy, hgie] at hstay
  · exact ⟨rfl, rfl⟩
  · exact issue_sameEvent hissue

theorem step_sameEvent (hi : s.inited = true) (hstay : s.busy = true ∨ s.gie = false) (h : step s = .next t) :
    s.atSequencer.SameEvent t := by
  obtain ⟨u, hu, rfl⟩ := sequencer_of_step hi h
  rw [← atSequencer_busy, ← atSequencer_gie] at hstay
  obtain ⟨hpending, hentry⟩ := sequencer_sameEvent hstay hu
  exact ⟨(frameClock_pending u).trans hpending, (frameClock_entrycnt u).trans hentry⟩

/-- A Sequencer that is idle and not masked, with an event latched that is not to enter yet, counts its latency down (R120). -/
structure State.CountsEntry (s : State) : Prop where
  inited : s.inited = true
  idle : s.busy = false
  gie : s.gie = true
  latched : s.atSequencer.pending = true
  latency : s.atSequencer.entrycnt ≠ 0

theorem State.CountsEntry.issuing_none (hs : s.CountsEntry) : s.issuing = none :=
  issuing_none_of_idle hs.inited ((atSequencer_busy s).trans hs.idle) fun henters =>
    have ⟨_, _, _, hover⟩ := (enters_iff _).mp henters
    hs.latency hover

theorem State.CountsEntry.step_eq (hs : s.CountsEntry) (h : step s = .next t) :
    t = { s.atSequencer with entrycnt := s.atSequencer.entrycnt - 1 }.afterSequencer := by
  obtain ⟨u, hu, rfl⟩ := sequencer_of_step hs.inited h
  rw [sequencer_of_entry_running ((atSequencer_busy s).trans hs.idle) hs.latched ((atSequencer_gie s).trans hs.gie)
    hs.latency] at hu
  cases hu
  rfl

theorem State.CountsEntry.step_event (hs : s.CountsEntry) (h : step s = .next t) :
    t.pending = true ∧ t.entrycnt.toNat = s.atSequencer.entrycnt.toNat - 1 := by
  have hlatency := hs.latency
  rw [hs.step_eq h, State.afterSequencer, endTick_pending, endTick_entrycnt, frameClock_pending, frameClock_entrycnt]
  exact ⟨hs.latched, by bv_omega⟩

/-- An event whose latency is over enters the idle Sequencer in this tick, at ROM index 0 (R120). -/
theorem issuing_of_latency_over (hi : s.inited = true) (hbusy : s.busy = false) (hgie : s.gie = true)
    (hpending : s.atSequencer.pending = true) (hentry : s.atSequencer.entrycnt = 0) :
    s.issuing = some s.atSequencer.enterEvent :=
  issuing_of_enters hi ((enters_iff _).mpr ⟨(atSequencer_busy s).trans hbusy, hpending, (atSequencer_gie s).trans hgie, hentry⟩)

/-- Settles O28: the latency is what delivery leaves in `ENTRYCNT`; a Sequencer that is busy or masked lets it stand, an idle
one counts it down or enters. -/
theorem eventDelivery : Obligations.EventDelivery := by
  intro s t h hi hflag hie
  have hev : (s.evtFlag && s.evtIE) = true := by rw [hflag, hie, Bool.and_self]
  have hlatched : s.atSequencer.pending = true := by rw [atSequencer_pending, hev, Bool.or_true]
  obtain ⟨hlo, hhi⟩ := atSequencer_entrycnt_mem hev
  refine ⟨fun hbusy => ?_, fun hpending => ?_, _, hlo, hhi, fun hbusy => ?_, fun _ hgie => ?_,
    fun hbusy hgie hpos => ?_, fun hbusy hgie hzero => ?_⟩
  · simp [step_raised_delivery (.inl rfl) hi h, State.deliveryRaises, hflag, hie, hbusy]
  · simp [step_raised_delivery (.inr rfl) hi h, State.deliveryRaises, hflag, hie, hpending]
  · obtain ⟨hpending, hentry⟩ := step_sameEvent hi (.inl hbusy) h
    exact ⟨hpending.trans hlatched, congrArg BitVec.toNat hentry⟩
  · obtain ⟨hpending, hentry⟩ := step_sameEvent hi (.inr hgie) h
    exact ⟨hpending.trans hlatched, congrArg BitVec.toNat hentry⟩
  · have hs : s.CountsEntry := ⟨hi, hbusy, hgie, hlatched, fun hzero => by simp [hzero] at hpos⟩
    obtain ⟨hpending, hentry⟩ := hs.step_event h
    exact ⟨hpending, hentry, hs.issuing_none⟩
  · exact ⟨_, issuing_of_latency_over hi hbusy hgie hlatched (BitVec.eq_of_toNat_eq hzero), rfl, rfl⟩

/-! ### The latency over many ticks (R120) -/

/-- The Sequencer is idle, and a latched event is to enter `m` ticks from now, before the end of the line. -/
structure State.AwaitsEntry (s : State) (m : Nat) : Prop where
  wf : s.cfg.wellFormed = true
  counting : s.Counting
  idle : s.busy = false
  gie : s.gie = true
  latched : s.atSequencer.pending = true
  latency : s.atSequencer.entrycnt.toNat = m
  inLine : s.tcnt.toNat + m < s.period.toNat

theorem State.AwaitsEntry.countsEntry {m : Nat} (hs : s.AwaitsEntry (m + 1)) : s.CountsEntry where
  inited := hs.counting.inited
  idle := hs.idle
  gie := hs.gie
  latched := hs.latched
  latency hzero := by
    have hlatency := hs.latency
    rw [hzero] at hlatency
    exact absurd hlatency (Nat.succ_ne_zero m).symm

/-- Short of the end of the line a tick delivers no other event, and brings the entry one tick nearer. -/
theorem State.AwaitsEntry.step {m : Nat} (hs : s.AwaitsEntry (m + 1)) (h : step s = .next t) :
    t.AwaitsEntry m ∧ t.tcnt.toNat = s.tcnt.toNat + 1 := by
  obtain ⟨hperiod, hcounting, htcnt⟩ := hs.counting.step_tcnt h
  obtain ⟨hpending, hentry⟩ := hs.countsEntry.step_event h
  have hline := hs.inLine
  rw [Nat.mod_eq_of_lt (by omega)] at htcnt
  have hnoEvent : (t.evtFlag && t.evtIE) = false := by
    rw [hs.counting.step_evtFlag h, Bool.and_eq_false_iff, decide_eq_false_iff_not]
    refine .inl fun hzero => ?_
    rw [hzero] at htcnt
    exact absurd htcnt (Nat.succ_ne_zero _).symm
  obtain ⟨hidle, hgie⟩ : t.busy = false ∧ t.gie = true := by
    have hbusy := (busy_eq_false_iff s).mp hs.idle
    rw [busy_eq_false_iff, hs.countsEntry.step_eq h]
    simpa [State.afterSequencer, hs.gie] using hbusy
  refine ⟨⟨step_cfg h ▸ hs.wf, hcounting, hidle, hgie, ?_, ?_, by rw [hperiod]; omega⟩, htcnt⟩
  · rw [atSequencer_pending, hpending, Bool.true_or]
  · rw [atSequencer_entrycnt_of_no_event hnoEvent, hentry, hs.latency, Nat.add_sub_cancel]

theorem State.AwaitsEntry.ticks {m : Nat} (hs : s.AwaitsEntry m) (k : Nat) (hk : k ≤ m) :
    ∃ t, ticks k s = .next t ∧ t.AwaitsEntry (m - k) ∧ t.tcnt.toNat = s.tcnt.toNat + k := by
  induction k generalizing s m with
  | zero => exact ⟨s, rfl, hs, rfl⟩
  | succ k ih =>
    obtain ⟨m, rfl⟩ := Nat.exists_eq_add_of_le' (Nat.one_le_of_lt hk)
    obtain ⟨u, hu⟩ := step_total hs.wf
    obtain ⟨hu', htcnt⟩ := hs.step hu
    obtain ⟨t, ht, hawaits, htcnt'⟩ := ih hu' (Nat.le_of_succ_le_succ hk)
    exact ⟨t, (ticks_succ k hu).trans ht, Nat.add_sub_add_right m 1 k ▸ hawaits, by omega⟩

/-- The event of a line start is to enter after the latency drawn at its delivery. -/
theorem awaitsEntry_of_lineStart (hwf : s.cfg.wellFormed = true) (hs : s.Counting) (hidle : s.busy = false)
    (hgie : s.gie = true) (hev : (s.evtFlag && s.evtIE) = true) (htcnt : s.tcnt = 0)
    (hline : s.cfg.entry.hi < s.period.toNat) : s.AwaitsEntry s.atSequencer.entrycnt.toNat where
  wf := hwf
  counting := hs
  idle := hidle
  gie := hgie
  latched := by rw [atSequencer_pending, hev, Bool.or_true]
  latency := rfl
  inLine := by
    have hhi := (atSequencer_entrycnt_mem hev).2
    rw [htcnt]
    exact (Nat.zero_add _).trans_lt (hhi.trans_lt hline)

/-- Settles O31: from the line start the wait is counted down to the entry, and issues nothing on the way. -/
theorem entryAfterDrawnLatency : Obligations.EntryAfterDrawnLatency := by
  intro s hwf hi harmed hie hgie hpc hop _ hflag htcnt hline
  have hev : (s.evtFlag && s.evtIE) = true := by rw [hflag, hie, Bool.and_self]
  have hcounting : s.Counting := ⟨hi, harmed, fun hzero => by simp [hzero] at hline⟩
  have hs := awaitsEntry_of_lineStart hwf hcounting ((busy_eq_false_iff s).mpr ⟨hpc, hop⟩) hgie hev htcnt hline
  obtain ⟨hlo, hhi⟩ := atSequencer_entrycnt_mem hev
  refine ⟨_, hlo, hhi, ?_, fun k hk => ?_⟩
  · obtain ⟨u, hu, hawaits, hcount⟩ := hs.ticks _ le_rfl
    have hover : u.atSequencer.entrycnt = 0 := BitVec.eq_of_toNat_eq (hawaits.latency.trans (Nat.sub_self _))
    refine ⟨u, _, hu, issuing_of_latency_over hawaits.counting.inited hawaits.idle hawaits.gie hawaits.latched hover, rfl, ?_⟩
    rw [enterEvent_tcnt, atSequencer_tcnt, hcount, htcnt]
    exact Nat.zero_add _
  · obtain ⟨v, hv, hawaits, -⟩ := hs.ticks k hk.le
    obtain ⟨m, hm⟩ := Nat.exists_eq_add_of_le' (Nat.sub_pos_of_lt hk)
    rw [hm] at hawaits
    exact ⟨v, hv, hawaits.countsEntry.issuing_none⟩

end Sys2Proof.Machine
end

/-! Proofs: the two contexts (60_exceptions.md R126; 43_signal_driver.md R105). -/
section
namespace Sys2Proof.Machine

variable {s t u w : State}

theorem context_eq_idle_iff (s : State) : s.context = .idle ↔ s.busy = false := by
  cases h : s.busy <;> simp [State.context, h]

theorem context_eq_handler_iff (s : State) : s.context = .handler ↔ s.busy = true := by
  cases h : s.busy <;> simp [State.context, h]

@[simp] theorem afterSequencer_busy (u : State) : u.afterSequencer.busy = u.busy :=
  busy_congr (frameClock_seqPc u) (frameClock_opcnt u)

theorem seqPc_ne_idlePc_of_program {i : RomIndex} (h : 1 ≤ i.toNat ∧ i.toNat ≤ 26) : i ≠ idlePc := by
  rintro rfl
  exact absurd h.2 (by decide)

/-- Of the micro-ops that a line program issues, only a RET of one tick leaves the Sequencer idle (R31, R105). -/
theorem State.AtProgram.idle_after_exec_iff (hw : w.AtProgram) {i : Instr} (hd : decode (w.romWord w.seqPc) = .op i)
    (h : exec i w = .next u) : u.busy = false ↔ i = .ret ∧ w.cfg.durRet.ticks = 1 := by
  rw [busy_eq_false_iff]
  obtain ⟨rfl, hpc⟩ | ⟨rfl, hpc⟩ | ⟨hi, hpc⟩ := exec_seqPc h
  · have hop : u.opcnt = w.cfg.durRet.ticks - 1 := by cases h; rfl
    have hpos := w.cfg.durRet.pos
    rw [hop]
    simp only [hpc, true_and]
    omega
  · have hne : u.seqPc ≠ idlePc := hpc ▸ seqPc_ne_idlePc_of_program (select_mem _ _)
    simp [hne]
  · have hne : u.seqPc ≠ idlePc := hpc ▸ seqPc_ne_idlePc_of_program (hw.next_mem hd hi)
    simp [hne, hi]

/-- The same of a tick that issues. -/
theorem idle_after_issue_iff (hs : s.OnProgram) (hw : s.issuing = some w) (h : issue w = .next u) :
    u.busy = false ↔ s.issued = some .ret ∧ s.cfg.durRet.ticks = 1 := by
  have hprog := issuing_atProgram hs hw
  obtain ⟨i, hd, hexec⟩ := hprog.exec_of_issue h
  have hcfg : w.cfg = s.cfg := by
    obtain ⟨-, ⟨-, rfl⟩ | ⟨-, -, rfl⟩⟩ := issuing_cases hw <;> simp
  rw [hprog.idle_after_exec_iff hd hexec, issued_of_issuing hw hd, hcfg, Option.some_inj]

/-- From the idle context the Sequencer gets busy by the entry of an event, whose DISP is no RET. -/
theorem busy_after_step_iff_of_idle (hs : s.OnProgram) (hi : s.inited = true) (hidle : s.busy = false)
    (h : step s = .next t) : t.busy = true ↔ s.atSequencer.enters = true := by
  obtain ⟨u, hu, rfl⟩ := sequencer_of_step hi h
  rw [afterSequencer_busy]
  rw [← atSequencer_busy] at hidle
  cases henters : s.atSequencer.enters with
  | true =>
    have hw := issuing_of_enters hi henters
    have hissue := hu
    rw [sequencer_of_enters henters] at hissue
    have hprog := issuing_atProgram hs hw
    rw [hprog.issue_plain Config.slots_disp] at hissue
    have hdisp : decode (s.atSequencer.enterEvent.romWord s.atSequencer.enterEvent.seqPc) = .op .disp :=
      (congrArg decode (hprog.romWord_of_slot Config.slots_disp)).trans (decode_encode .disp)
    have hbusy := mt (hprog.idle_after_exec_iff hdisp hissue).mp nofun
    exact iff_of_true (Bool.eq_true_of_not_eq_false hbusy) rfl
  | false =>
    refine iff_of_false ?_ nofun
    obtain ⟨-, -, rfl⟩ | ⟨-, -, -, -, rfl⟩ | ⟨hno, -⟩ | ⟨hno, -⟩ | ⟨hno, -⟩ := sequencer_cases hu
    · simp [hidle]
    · simpa [State.busy] using hidle
    · simp [henters] at hno
    · simp [hidle] at hno
    · simp [hidle] at hno

/-- A busy Sequencer gets idle with the last tick of a duration outside the line programs, or with a RET of one tick. -/
theorem idle_after_step_iff_of_busy (hs : s.OnProgram) (hi : s.inited = true) (hbusy : s.busy = true)
    (h : step s = .next t) :
    t.busy = false ↔ (s.seqPc = idlePc ∧ s.opcnt = 1) ∨ (s.issued = some .ret ∧ s.cfg.durRet.ticks = 1) := by
  obtain hop | hop := Nat.eq_zero_or_pos s.opcnt
  · obtain ⟨u, hu, rfl⟩ := sequencer_of_step hi h
    have hw := issuing_of_busy hi hbusy hop
    rw [sequencer_of_issuing hw] at hu
    rw [afterSequencer_busy, idle_after_issue_iff hs hw hu]
    simp [hop]
  · obtain ⟨t', ht, hop', hpc⟩ := step_of_op_running hs.1 hi hop
    cases ht.symm.trans h
    have hnone : s.issued = none := by simp only [State.issued, issuing_none_of_op_running hop]
    rw [busy_eq_false_iff, hop', hpc, hnone]
    simp only [reduceCtorEq, false_and, or_false, and_congr_right_iff]
    omega

/-- Settles O57: the contexts are those of an idle and of a busy Sequencer. -/
theorem contextChanges : Obligations.ContextChanges := by
  intro s t hs hi h
  rw [context_eq_idle_iff, context_eq_handler_iff, context_eq_handler_iff, context_eq_idle_iff]
  exact ⟨fun hidle => busy_after_step_iff_of_idle hs hi hidle h, fun hbusy => idle_after_step_iff_of_busy hs hi hbusy h⟩

end Sys2Proof.Machine
end

/-! Proofs: power-on and INIT (70_reset_and_hazards.md R136 to R138). -/
section
namespace Sys2Proof.Machine

variable {s t u w : State}

/-- Settles O58: power-on has the ROM of its configuration, and an idle Sequencer. -/
theorem onProgramAtReset : Obligations.OnProgramAtReset := ⟨by decide, rfl, .inl rfl, fun _ => rfl⟩

/-- Settles O41: the reset state is written out; before INIT a tick without a strobe only counts; every pin waits for INIT. -/
theorem powerOnIsInert : Obligations.PowerOnIsInert :=
  ⟨by decide, fun _ => step_before_init, fun _ => pins_of_not_inited⟩

/-- Settles O42: the state after INIT, written out, and its registers' values with the default tables. -/
theorem initWrites : Obligations.InitWrites := by
  refine ⟨fun s => step_init, fun s t hwf htables hi hstrobe h => ?_⟩
  cases (step_init hwf hi hstrobe).symm.trans h
  obtain ⟨-, -, -, -, hperiod, -, -, -, hlines, -⟩ := htables
  exact ⟨congrArg (BitVec.ofNat 16) hlines, congrArg (BitVec.ofNat 16) hperiod,
    show 0#5 ++ bit true ++ 1#1 ++ bit true = 0b00000111#8 by decide, show bit false ++ bit false ++ bit true = 0b001#3 by decide⟩

/-! ### A second INIT (R137): nothing in a tick reads `FAULTS` or the record of the first raise -/

/-- The same block with `PE_REINIT` raised, and `r` for the record of the first raise. -/
def State.withReinit (s : State) (r : FirstRaise) : State :=
  { s with faults := s.faults ||| FaultCode.peReinit.bit, firstRaise := some r }

theorem exists_raise_eq_withReinit (s : State) : ∃ r, s.raise .peReinit = s.withReinit r := by
  unfold State.raise
  cases s.firstRaise with
  | none => exact ⟨_, rfl⟩
  | some r => exact ⟨r, rfl⟩

variable (r : FirstRaise)

/-- The bits of two raises are set in either order, and neither raise replaces the record (R110, R111). -/
theorem raise_withReinit (s : State) (f : FaultCode) : (s.withReinit r).raise f = (s.raise f).withReinit r := by
  have hfaults : s.faults ||| FaultCode.peReinit.bit ||| f.bit = s.faults ||| f.bit ||| FaultCode.peReinit.bit := by ac_rfl
  exact congrArg (fun faults => { s with faults := faults, firstRaise := some r }) hfaults

theorem raiseIf_withReinit (s : State) (p : Prop) [Decidable p] (f : FaultCode) :
    (if p then (s.withReinit r).raise f else s.withReinit r) = (if p then s.raise f else s).withReinit r := by
  rw [raise_withReinit, apply_ite (State.withReinit · r)]

theorem deliver_withReinit (s : State) : (s.withReinit r).deliver = s.deliver.withReinit r := by
  cases hev : s.evtFlag && s.evtIE with
  | false => rw [deliver_none s hev, deliver_none (s.withReinit r) hev]
  | true =>
    have hev' : ((s.withReinit r).evtFlag && (s.withReinit r).evtIE) = true := hev
    rw [State.deliver, State.deliver, if_pos hev, if_pos hev']
    dsimp only
    rw [raiseIf_withReinit, raiseIf_withReinit]
    rfl

theorem afterSequencer_withReinit (s : State) : (s.withReinit r).afterSequencer = s.afterSequencer.withReinit r := by
  unfold State.afterSequencer State.frameClock
  rw [apply_ite State.endTick, apply_ite State.endTick, apply_ite (State.withReinit · r)]
  rfl

theorem advance_withReinit (s : State) : (s.withReinit r).advance = s.advance.withReinit r := by
  unfold State.advance
  rw [apply_ite (State.withReinit · r), apply_ite (State.withReinit · r), ← raise_withReinit]
  rfl

theorem waitMiss_withReinit (s : State) : (s.withReinit r).waitMiss = s.waitMiss.withReinit r := by
  unfold State.waitMiss
  rw [raise_withReinit]
  rfl

theorem exec_withReinit {i : Instr} (h : exec i s = .next t) : exec i (s.withReinit r) = .next (t.withReinit r) := by
  cases i with
  | wait t8 =>
    cases h
    rw [exec_wait, waitMiss_withReinit, apply_ite (State.withReinit · r)]
    rfl
  | adv =>
    cases h
    rw [exec_adv, advance_withReinit]
    rfl
  | _ =>
    cases h
    rfl

theorem issue_withReinit (h : issue w = .next t) : issue (w.withReinit r) = .next (t.withReinit r) := by
  obtain ⟨i, hd, hexec⟩ | ⟨e, hd, rfl⟩ := issue_cases h
  · rw [issue_of_decode (w := w.withReinit r) hd]
    exact exec_withReinit r hexec
  · rw [issue_illegal (w := w.withReinit r) hd, State.abandon, raise_withReinit]
    rfl

theorem sequencer_withReinit (h : sequencer w = .next t) : sequencer (w.withReinit r) = .next (t.withReinit r) := by
  obtain ⟨hbusy, hnone, rfl⟩ | ⟨hbusy, hpending, hgie, hentry, rfl⟩ | ⟨henters, hissue⟩ | ⟨hbusy, hop, rfl⟩ |
    ⟨hbusy, hop, hissue⟩ := sequencer_cases h
  · exact sequencer_of_idle (w := t.withReinit r) hbusy hnone
  · exact sequencer_of_entry_running (w := w.withReinit r) hbusy hpending hgie hentry
  · rw [sequencer_of_enters (w := w.withReinit r) henters]
    exact issue_withReinit r (w := w.enterEvent) hissue
  · exact sequencer_of_op_running (w := w.withReinit r) hbusy hop
  · rw [sequencer_of_busy (w := w.withReinit r) hbusy hop]
    exact issue_withReinit r hissue

/-- The same block with no strobe at this tick. -/
def State.withoutStrobe (s : State) : State := { s with hostInit := false :: s.hostInit.tail }

/-- Up to the Sequencer, a second INIT adds its fault to the tick without a strobe (R137). -/
theorem exists_atSequencer_eq_withReinit (hstrobe : s.strobe = true) :
    ∃ r, s.atSequencer = s.withoutStrobe.atSequencer.withReinit r := by
  obtain ⟨r, hr⟩ := exists_raise_eq_withReinit s.popStrobe
  refine ⟨r, ?_⟩
  rw [State.atSequencer, if_pos hstrobe, hr]
  exact deliver_withReinit r s.popStrobe.latchPins

/-- Settles O43: `PE_REINIT` is raised before the Sequencer acts, and the rest of the tick carries the raise along. -/
theorem secondInitOnlyRaises : Obligations.SecondInitOnlyRaises := by
  intro s hwf hi hstrobe
  obtain ⟨u, hu⟩ := sequencer_total s.withoutStrobe.atSequencer
  obtain ⟨r, hr⟩ := exists_atSequencer_eq_withReinit hstrobe
  refine ⟨u.afterSequencer.withReinit r, u.afterSequencer, ?_, ?_, rfl, rfl⟩
  · rw [step_inited hwf hi, hr, sequencer_withReinit r hu]
    exact congrArg _ (afterSequencer_withReinit r u)
  · exact (step_inited (s := s.withoutStrobe) hwf hi).trans (congrArg (andThen · State.afterSequencer) hu)

end Sys2Proof.Machine
end

/-! Proofs: within the line budget no run raises a fault (70_reset_and_hazards.md R145). -/
section
namespace Sys2Proof.Machine

/-- Settles O51: INIT's tick is the one that puts a powered-on block on schedule. -/
theorem initStartsTheSchedule : Obligations.InitStartsTheSchedule := by
  intro s t hs hbudget hfirst h
  obtain ⟨hstep, hschedule⟩ := init_onSchedule hs hbudget hfirst
  cases hstep.symm.trans h
  exact hschedule

/-- Settles O52: the Sequencer's cases on schedule are in `sequencer_onSchedule`, and the Frame Clock takes what each leaves to
the next tick. -/
theorem scheduleIsKept : Obligations.ScheduleIsKept := fun _ _ => step_onSchedule

/-- Settles O53: power-on has no fault, and from INIT on every tick of the run is on schedule. -/
theorem noFaultWithinTheLineBudget : Obligations.NoFaultWithinTheLineBudget := by
  intro s n hs hbudget hfirst
  cases n with
  | zero =>
    obtain ⟨-, -, -, -, -, hfaults, -⟩ := hs
    exact ⟨s, rfl, hfaults⟩
  | succ n =>
    obtain ⟨t, ht, htracks⟩ := tracks_ticks hs hbudget hfirst n
    exact ⟨t, ht, faults_of_onSchedule htracks.schedule⟩

end Sys2Proof.Machine
end

/-! Proofs: the decoder against the encoder and on words written out (30_encoding.md section 2; 95_test_vectors.md D-1 to D-21). -/
section
namespace Sys2Proof

/-- Settles O2: `decode_encode` holds for every micro-op, as each is well-formed; the converse is `encode_of_decode`. -/
theorem decodeEncodeRoundTrip : Obligations.DecodeEncodeRoundTrip :=
  ⟨fun i _ => decode_encode i, fun _ _ => encode_of_decode⟩

/-- Settles O1: each legal word is the encoding of its micro-op; each illegal one has an assigned `OP` with a must-be-zero bit
set (R63), or a reserved `OP` (R62). -/
theorem decodeOfWrittenWords : Obligations.DecodeOfWrittenWords := by
  refine ⟨decode_encode (.wait 91), decode_encode (.wait 0), decode_encode (.wait 255), decode_encode (.setc 0),
    decode_encode (.setc 7), decode_encode .tgls, decode_encode .adv, decode_encode .ret, decode_encode .disp, ?_⟩
  simp only [List.forall_mem_cons]
  refine ⟨⟨.mustBeZero 1, rfl⟩, ⟨.mustBeZero 2, rfl⟩, ⟨.mustBeZero 2, rfl⟩, ⟨.mustBeZero 3, rfl⟩, ⟨.mustBeZero 4, rfl⟩,
    ⟨.mustBeZero 5, rfl⟩, ⟨.mustBeZero 6, rfl⟩, ⟨.reservedOp 0, rfl⟩, ⟨.reservedOp 0, rfl⟩, ⟨.reservedOp 7, rfl⟩,
    ⟨.reservedOp 15, rfl⟩, ⟨.reservedOp 15, rfl⟩, List.forall_mem_nil _⟩

end Sys2Proof
end

/-! Proofs: which configurations run (00_scope.md R11), and that every micro-op completes. -/
section
namespace Sys2Proof

/-! ### The default tables (R6 to R9) -/

section
variable {c : Config} (h : c.defaultTables)
include h

theorem Config.bandW_of_defaultTables : c.bandW = 50 := by
  obtain ⟨-, -, hactive, -, -, -, -, -, -, hbands⟩ := h
  rw [Config.bandW, hactive, hbands]

theorem Config.activeStart_of_defaultTables : c.activeStart = 91 := by
  obtain ⟨hsync, hbp, -⟩ := h
  rw [Config.activeStart, hsync, hbp]

theorem Config.activeEnd_of_defaultTables : c.activeEnd = 497 := by
  have hstart := Config.activeStart_of_defaultTables h
  obtain ⟨-, -, hactive, -⟩ := h
  rw [Config.activeEnd, hstart, hactive]

theorem Config.bandStart_of_defaultTables (k : Nat) : c.bandStart k = 91 + k * 50 := by
  rw [Config.bandStart, Config.activeStart_of_defaultTables h, Config.bandW_of_defaultTables h]

theorem Config.conditionsOfR11_of_defaultTables : c.conditionsOfR11 := by
  have hbandW := Config.bandW_of_defaultTables h
  have hend := Config.activeEnd_of_defaultTables h
  have hband := Config.bandStart_of_defaultTables h
  obtain ⟨hsync, hbp, hactive, hfp, hline, hvSync, hvBp, hvActive, hvFp, -⟩ := h
  have hlast := hband 7
  refine ⟨by omega, by omega, by omega, by omega, ⟨fun k _ => ?_, by omega, by omega⟩, fun p => ?_, by omega⟩
  · rw [hband, hband]
    omega
  · cases p <;> simp only [Config.count] <;> omega

end

namespace Machine

/-- Settles O35: the model accepts R11's conditions together with 8 bands, steps from what it accepts and refuses the rest. -/
theorem wellFormedConfigurationRuns : Obligations.WellFormedConfigurationRuns := by
  refine ⟨fun s hR11 hbands => ?_, fun s _ hbands => ?_, fun c => Config.conditionsOfR11_of_defaultTables⟩
  · exact step_total (s.cfg.wellFormed_iff.mpr ⟨hR11, hbands⟩)
  · exact step_of_not_wellFormed fun hwf => hbands (s.cfg.wellFormed_iff.mp hwf).2

/-- Settles O10: `exec` has an arm for each micro-op, and every arm answers a next state. -/
theorem everyMicroOpCompletes : Obligations.EveryMicroOpCompletes := exec_total

end Machine
end Sys2Proof
end
